-- ==== Sys2Proof/Word.lean ====
section
/-! DEFINITION. The words of the SV-97/bitrev bit-reversal engine: the widths of its channels, latches
and counters (00_scope.md R6, R7). Bit 0 is the least significant bit of every value (R7). -/

namespace Sys2Proof

/-- A command word, format `CMD16` (`CMD_BITS` = 16; R6, R80). -/
abbrev CmdWord := BitVec 16

/-- A value on the operand or result bus, and in a 128-bit datapath register (`BUS_BITS` = 128; R6, R33, R34). -/
abbrev BusWord := BitVec 128

/-- One byte lane, and one entry of the byte table (R8, R50). -/
abbrev Byte := BitVec 8

/-- One entry of the nibble table (R50). -/
abbrev Nibble := BitVec 4

/-- The 8-bit counters `off` (`OFF_BITS` = 8; R28) and `cnt` (R29). -/
abbrev Counter := BitVec 8

end Sys2Proof
end

