-- ==== Sys2Proof/Machine/State.lean ====
section
/-! DEFINITION. The state of the engine (10_state.md), the responses it makes, the moves of its host, and
the state right after reset. Memory is no part of it: the two tables are constants, "not state" (R30), and
nothing else is addressable (20_memory.md R51, R59). -/

namespace Sys2Proof.Machine

open Sys2Proof

/-- `phase` (10_state.md R25). -/
inductive Phase where
  /-- No command is held; the engine can accept one. -/
  | idle
  /-- Exactly one command is held in `cmd_q` and `opnd_q` and has not been answered. -/
  | busy
deriving DecidableEq, Repr

/-- The status of a response (10_state.md R34): two outcomes exist (60_exceptions.md R274). -/
inductive Status where
  /-- The command was legal and `res` holds its result. -/
  | ok
  /-- IllegalCommand (60_exceptions.md R271): the word is not a legal command word; `res` is 0. -/
  | illegal
deriving DecidableEq, Repr

/-- One transfer on the response channel (10_state.md R34). -/
structure Response where
  res    : BusWord
  status : Status
deriving DecidableEq, Repr

/-- What the host does next: its moves of 60_exceptions.md R285, and letting the engine go on. -/
inductive HostMove where
  /-- Present a command on the command channel until it is accepted (R33, R111, R311). -/
  | present (cmd : CmdWord) (opnd : BusWord)
  /-- Do nothing while the engine makes its next step. -/
  | quiet
  /-- Take the oldest response from the response channel, if there is one (R34, R285). -/
  | take
  /-- The reset event (70_reset_and_hazards.md R300). -/
  | reset
deriving DecidableEq, Repr

/-- The state of one engine and of its two channels. Every register is hidden from the host (R31). -/
structure State where
  /-- `phase` (R25). -/
  phase : Phase
  /-- `cmd_q`, the command word accepted (R21). -/
  cmdQ : CmdWord
  /-- `opnd_q`, the operand accepted (R21). -/
  opndQ : BusWord
  /-- `vy`, the lane register of the byte-oriented datapaths (R26). -/
  vy : BusWord
  /-- `acc`, the accumulator of the shift-accumulate barrel (R27). -/
  acc : BusWord
  /-- `src`, the source register of the barrel (R27). -/
  src : BusWord
  /-- `off`, the offset counter of shape (b) (R28). -/
  off : Counter
  /-- `cnt`, the iteration counter of shape (a) and of the nibble variant (R29). -/
  cnt : Counter
  /-- The response channel (R34): the responses made and not yet taken, oldest first. -/
  responses : List Response
  /-- The command channel and the host's other moves, next first (R33, R285). The model's own form of
  the outside world: log entry 5. -/
  host : List HostMove
  /-- How many free values have been drawn from `Config.freeBits`. The model's own field: log entry 3. -/
  drawn : Nat
deriving DecidableEq, Repr

/-- Why the machine stops. There is no constructor: no condition stops the engine. Its one exceptional
condition, IllegalCommand, is answered on the response channel and the engine goes on (60_exceptions.md
R270, R271, R278), so it is a next state and not a fault of this type. Safe: nothing raises it. -/
inductive Fault where
deriving DecidableEq, Repr

/-- Why an instruction has no meaning here. -/
inductive Refusal where
  /-- The instruction is not modelled yet. Safe: the machine stops. No arm of `exec` answers it. -/
  | notModelled (mnemonic : String)
deriving DecidableEq, Repr

/-- What a step or a meaning answers. -/
abbrev Answer := Host.Outcome State Fault Refusal

/-- The engine right after reset (10_state.md R32): `phase` is IDLE and the response channel is empty. The
seven registers that R32 leaves unspecified hold 0: DESIGN CHOICE, unsafe, log entry 2; no statement
rests on it. Nothing has been presented yet: a command comes from outside (R111, R125; log entry 6). -/
def State.reset : State :=
  { phase := .idle
    cmdQ := 0
    opndQ := 0
    vy := 0
    acc := 0
    src := 0
    off := 0
    cnt := 0
    responses := []
    host := []
    drawn := 0 }

end Sys2Proof.Machine
end

