-- ==== Sys2Proof/Config.lean ====
section
/-! DEFINITION. What an instance of the engine fixes (00_scope.md R6), and the free values: what the
spec calls unspecified is an opaque constant here, which no proof can see through. -/

namespace Sys2Proof

/-- `FLOAT_WIDTHS`: the widths at which kind F is admitted. R6 leaves it OPEN, so the model takes it as an
argument from the legality test to the engine (`Form.wellFormedWith`, `legalWith`, `decodeWith`,
`State.turn`, `coreWith`). This is the default that R6 gives, at which the one machine that the host reads
is built: DESIGN CHOICE, log entry 1. -/
def Config.floatWidths : List Nat := [16, 32, 64, 128]

/-- `LANES`: the byte lanes of the vector datapath, R6 and R26; R171 says that it never changes a result. -/
def Config.lanes : Nat := 16

/-- The unspecified values of R32 (every register after a reset event) and of the register bits above
the width of a command (R26, R27). Free: `freeBits n` is the n-th value drawn, and nothing constrains
it. Log entries 3 and 4. -/
opaque Config.freeBits : Nat → BusWord

end Sys2Proof
end

