-- ==== Sys2Proof/Syntax.lean ====
section
/-! DEFINITION. The command set: one constructor for each row of spec/opcode_table.json, which is the
opcode map of 30_encoding.md R88. A command word has no immediate field and no register field (R86), so
no constructor has an argument: the one operand travels beside the word on the command channel (R33). -/

namespace Sys2Proof

/-- The 44 legal commands (30_encoding.md R88), named `REV.<strategy>[.<variant>].<kind><W>` (R93). -/
inductive Instr where
  /-- `REV.BC.U8`, word `0x0080` (41_byte_composition.md R141). -/
  | bcU8
  /-- `REV.BC.U16`, word `0x0081` (41_byte_composition.md R142). -/
  | bcU16
  /-- `REV.BC.U32`, word `0x0082` (41_byte_composition.md R143). -/
  | bcU32
  /-- `REV.BC.U64`, word `0x0083` (41_byte_composition.md R144). -/
  | bcU64
  /-- `REV.BC.U128`, word `0x0084` (41_byte_composition.md R145). -/
  | bcU128
  /-- `REV.BC.S8`, word `0x0088` (41_byte_composition.md R146). -/
  | bcS8
  /-- `REV.BC.S16`, word `0x0089` (41_byte_composition.md R147). -/
  | bcS16
  /-- `REV.BC.S32`, word `0x008A` (41_byte_composition.md R148). -/
  | bcS32
  /-- `REV.BC.S64`, word `0x008B` (41_byte_composition.md R149). -/
  | bcS64
  /-- `REV.BC.S128`, word `0x008C` (41_byte_composition.md R150). -/
  | bcS128
  /-- `REV.BC.F16`, word `0x0091` (41_byte_composition.md R151). -/
  | bcF16
  /-- `REV.BC.F32`, word `0x0092` (41_byte_composition.md R152). -/
  | bcF32
  /-- `REV.BC.F64`, word `0x0093` (41_byte_composition.md R153). -/
  | bcF64
  /-- `REV.BC.F128`, word `0x0094` (41_byte_composition.md R154). -/
  | bcF128
  /-- `REV.VEC.U8`, word `0x0100` (42_vectorized.md R172). -/
  | vecU8
  /-- `REV.VEC.U16`, word `0x0101` (42_vectorized.md R173). -/
  | vecU16
  /-- `REV.VEC.U32`, word `0x0102` (42_vectorized.md R174). -/
  | vecU32
  /-- `REV.VEC.U64`, word `0x0103` (42_vectorized.md R175). -/
  | vecU64
  /-- `REV.VEC.U128`, word `0x0104` (42_vectorized.md R176). -/
  | vecU128
  /-- `REV.LUT.U8`, word `0x0180` (43_lookup_table.md R192). -/
  | lutU8
  /-- `REV.LUT.U16`, word `0x0181` (43_lookup_table.md R193). -/
  | lutU16
  /-- `REV.LUT.U32`, word `0x0182` (43_lookup_table.md R194). -/
  | lutU32
  /-- `REV.LUT.U64`, word `0x0183` (43_lookup_table.md R195). -/
  | lutU64
  /-- `REV.LUT.U128`, word `0x0184` (43_lookup_table.md R196). -/
  | lutU128
  /-- `REV.LUT.S8`, word `0x0188` (43_lookup_table.md R197). -/
  | lutS8
  /-- `REV.LUT.S16`, word `0x0189` (43_lookup_table.md R198). -/
  | lutS16
  /-- `REV.LUT.S32`, word `0x018A` (43_lookup_table.md R199). -/
  | lutS32
  /-- `REV.LUT.S64`, word `0x018B` (43_lookup_table.md R200). -/
  | lutS64
  /-- `REV.LUT.S128`, word `0x018C` (43_lookup_table.md R201). -/
  | lutS128
  /-- `REV.LUT.F16`, word `0x0191` (43_lookup_table.md R202). -/
  | lutF16
  /-- `REV.LUT.F32`, word `0x0192` (43_lookup_table.md R203). -/
  | lutF32
  /-- `REV.LUT.F64`, word `0x0193` (43_lookup_table.md R204). -/
  | lutF64
  /-- `REV.LUT.F128`, word `0x0194` (43_lookup_table.md R205). -/
  | lutF128
  /-- `REV.ITER.A.U8`, word `0x0200` (44_iterative.md R228). -/
  | iterAU8
  /-- `REV.ITER.A.U16`, word `0x0201` (44_iterative.md R229). -/
  | iterAU16
  /-- `REV.ITER.A.U32`, word `0x0202` (44_iterative.md R230). -/
  | iterAU32
  /-- `REV.ITER.A.U64`, word `0x0203` (44_iterative.md R231). -/
  | iterAU64
  /-- `REV.ITER.A.U128`, word `0x0204` (44_iterative.md R232). -/
  | iterAU128
  /-- `REV.ITER.B.U8`, word `0x0220` (44_iterative.md R233). -/
  | iterBU8
  /-- `REV.ITER.B.U16`, word `0x0221` (44_iterative.md R234). -/
  | iterBU16
  /-- `REV.ITER.B.U32`, word `0x0222` (44_iterative.md R235). -/
  | iterBU32
  /-- `REV.ITER.B.U64`, word `0x0223` (44_iterative.md R236). -/
  | iterBU64
  /-- `REV.ITER.B.U128`, word `0x0224` (44_iterative.md R237). -/
  | iterBU128
  /-- `REV.ITER.N.U32`, word `0x0242` (44_iterative.md R238). -/
  | iterNU32
deriving DecidableEq, Repr

end Sys2Proof
end

