-- ==== Sys2Proof/Machine/Form.lean ====
section
/-! DEFINITION. What a command names: a datapath (strategy and variant), a kind and a width
(30_encoding.md R82 to R85). A `Form` is what the grammar of R93 lets one write down: 90 of them, of
which the 44 of R88 are legal by default. -/

namespace Sys2Proof

/-- Strategy together with variant: what R126 dispatches on (R82, R83). -/
inductive Datapath where
  /-- `STRAT` = BC, `VAR` = 0: byte composition (R140). -/
  | bc
  /-- `STRAT` = VEC, `VAR` = 0: vectorized (R170). -/
  | vec
  /-- `STRAT` = LUT, `VAR` = 0: lookup table (R190). -/
  | lut
  /-- `STRAT` = ITER, `VAR` = A: iterative, shape (a) (R221). -/
  | iterA
  /-- `STRAT` = ITER, `VAR` = B: iterative, shape (b) (R223). -/
  | iterB
  /-- `STRAT` = ITER, `VAR` = N: iterative, nibble table (R226). -/
  | iterN
deriving DecidableEq, Repr

/-- The numeric kind (R84). It never changes a result bit (R123). -/
inductive Kind where
  /-- unsigned integer -/
  | u
  /-- signed integer -/
  | s
  /-- IEEE float -/
  | f
deriving DecidableEq, Repr

/-- The five operand widths (`WIDTHS`, R6, R85). -/
inductive Width where
  | w8
  | w16
  | w32
  | w64
  | w128
deriving DecidableEq, Repr

/-- What a mnemonic of R93 spells out. -/
structure Form where
  path  : Datapath
  kind  : Kind
  width : Width
deriving DecidableEq, Repr

/-- `W`, the width in bits (R85: W = 8 · 2^WSEL). -/
def Width.bits : Width → Nat
  | .w8 => 8
  | .w16 => 16
  | .w32 => 32
  | .w64 => 64
  | .w128 => 128

/-- The row of the opcode map of R88 for each command: its `STRAT` and `VAR`, `KIND` and `WSEL` columns. -/
def Instr.form : Instr → Form
  | .bcU8 => ⟨.bc, .u, .w8⟩
  | .bcU16 => ⟨.bc, .u, .w16⟩
  | .bcU32 => ⟨.bc, .u, .w32⟩
  | .bcU64 => ⟨.bc, .u, .w64⟩
  | .bcU128 => ⟨.bc, .u, .w128⟩
  | .bcS8 => ⟨.bc, .s, .w8⟩
  | .bcS16 => ⟨.bc, .s, .w16⟩
  | .bcS32 => ⟨.bc, .s, .w32⟩
  | .bcS64 => ⟨.bc, .s, .w64⟩
  | .bcS128 => ⟨.bc, .s, .w128⟩
  | .bcF16 => ⟨.bc, .f, .w16⟩
  | .bcF32 => ⟨.bc, .f, .w32⟩
  | .bcF64 => ⟨.bc, .f, .w64⟩
  | .bcF128 => ⟨.bc, .f, .w128⟩
  | .vecU8 => ⟨.vec, .u, .w8⟩
  | .vecU16 => ⟨.vec, .u, .w16⟩
  | .vecU32 => ⟨.vec, .u, .w32⟩
  | .vecU64 => ⟨.vec, .u, .w64⟩
  | .vecU128 => ⟨.vec, .u, .w128⟩
  | .lutU8 => ⟨.lut, .u, .w8⟩
  | .lutU16 => ⟨.lut, .u, .w16⟩
  | .lutU32 => ⟨.lut, .u, .w32⟩
  | .lutU64 => ⟨.lut, .u, .w64⟩
  | .lutU128 => ⟨.lut, .u, .w128⟩
  | .lutS8 => ⟨.lut, .s, .w8⟩
  | .lutS16 => ⟨.lut, .s, .w16⟩
  | .lutS32 => ⟨.lut, .s, .w32⟩
  | .lutS64 => ⟨.lut, .s, .w64⟩
  | .lutS128 => ⟨.lut, .s, .w128⟩
  | .lutF16 => ⟨.lut, .f, .w16⟩
  | .lutF32 => ⟨.lut, .f, .w32⟩
  | .lutF64 => ⟨.lut, .f, .w64⟩
  | .lutF128 => ⟨.lut, .f, .w128⟩
  | .iterAU8 => ⟨.iterA, .u, .w8⟩
  | .iterAU16 => ⟨.iterA, .u, .w16⟩
  | .iterAU32 => ⟨.iterA, .u, .w32⟩
  | .iterAU64 => ⟨.iterA, .u, .w64⟩
  | .iterAU128 => ⟨.iterA, .u, .w128⟩
  | .iterBU8 => ⟨.iterB, .u, .w8⟩
  | .iterBU16 => ⟨.iterB, .u, .w16⟩
  | .iterBU32 => ⟨.iterB, .u, .w32⟩
  | .iterBU64 => ⟨.iterB, .u, .w64⟩
  | .iterBU128 => ⟨.iterB, .u, .w128⟩
  | .iterNU32 => ⟨.iterN, .u, .w32⟩

/-- The kinds that each datapath admits (`STRAT_KINDS`, R6; R87): byte composition and lookup table
all three, the others unsigned only. -/
def Datapath.admitsKind : Datapath → Kind → Bool
  | .bc, _ | .lut, _ => true
  | .vec, k | .iterA, k | .iterB, k | .iterN, k => k == .u

/-- The widths that each datapath admits (R83, R87): all five, and 32 alone for the nibble variant. -/
def Datapath.admitsWidth : Datapath → Width → Bool
  | .iterN, w => w == .w32
  | .bc, _ | .vec, _ | .lut, _ | .iterA, _ | .iterB, _ => true

/-- Kind F is admitted at the widths of `FLOAT_WIDTHS` only (R87, R89). -/
def Form.floatAdmitted (floatWidths : List Nat) (f : Form) : Bool :=
  f.kind != .f || floatWidths.contains f.width.bits

/-- The legal combinations of R87, for a given `FLOAT_WIDTHS`. -/
def Form.wellFormedWith (floatWidths : List Nat) (f : Form) : Bool :=
  f.path.admitsKind f.kind && f.path.admitsWidth f.width && f.floatAdmitted floatWidths

end Sys2Proof
end

