-- ==== Sys2Proof/WellFormed.lean ====
section
/-! DEFINITION. Which combinations of strategy, kind and width exist (30_encoding.md R87). -/

namespace Sys2Proof

/-- The legal combinations of R87 in this instance of the engine. -/
def Form.wellFormed (f : Form) : Bool := f.wellFormedWith Config.floatWidths

/-- A command is well formed when its combination exists (R87). -/
def Instr.wellFormed (i : Instr) : Bool := i.form.wellFormed

end Sys2Proof
end

