-- ==== Sys2Proof/Decode.lean ====
section
/-! DEFINITION. The encoding of the command word `CMD16` (30_encoding.md): its fields, the legality test
of R89, the decoder and, after it, the encoder. Decoding is total on the 65,536 words and refuses by
name; no name is visible to the host, which sees one status for every cause (60_exceptions.md R272, R276). -/

namespace Sys2Proof

/-- The fields of a command word (R81). -/
structure Fields where
  zero  : BitVec 6
  strat : BitVec 3
  var   : BitVec 2
  kind  : BitVec 2
  wsel  : BitVec 3
deriving DecidableEq, Repr

/-- Which check of R89 a word fails. Internal to the model: the response does not carry it (R272). -/
inductive Reject where
  /-- `ZERO` is not 0 (R81). -/
  | zero
  /-- `STRAT` is 0, 5, 6 or 7 (R82). -/
  | strategy
  /-- `VAR` is not 0 with BC, VEC or LUT, or is 3 with ITER (R83). -/
  | variant
  /-- `KIND` is 3 (R84). -/
  | kind
  /-- `WSEL` is 5, 6 or 7 (R85). -/
  | width
  /-- Kind S or F with VEC or ITER (R87). -/
  | kindOfStrategy
  /-- ITER with `VAR` = N at a width other than 32 (R83, R87). -/
  | nibbleWidth
  /-- Kind F at a width outside `FLOAT_WIDTHS` (R87). -/
  | floatWidth
deriving DecidableEq, Repr

/-- What the decoder makes of a word: a command, or an illegal word with the check that it fails. -/
inductive Decoded where
  | instr (i : Instr)
  | illegal (why : Reject)
deriving DecidableEq, Repr

/-- The slices of R81: `ZERO` 15:10, `STRAT` 9:7, `VAR` 6:5, `KIND` 4:3, `WSEL` 2:0. -/
def fieldsOf (c : CmdWord) : Fields :=
  { zero  := c.extractLsb' 10 6
    strat := c.extractLsb' 7 3
    var   := c.extractLsb' 5 2
    kind  := c.extractLsb' 3 2
    wsel  := c.extractLsb' 0 3 }

/-- The width that a word selects, W = 8 · 2^WSEL (R85, R89). -/
def selectedWidth (c : CmdWord) : Nat := 8 * 2 ^ (fieldsOf c).wsel.toNat

/-- The predicate `legal` of R89, conjunct by conjunct, for a given `FLOAT_WIDTHS`. -/
def legalWith (floatWidths : List Nat) (c : CmdWord) : Bool :=
  let high := (fieldsOf c).zero.toNat
  let strat := (fieldsOf c).strat.toNat
  let var := (fieldsOf c).var.toNat
  let kind := (fieldsOf c).kind.toNat
  let wsel := (fieldsOf c).wsel.toNat
  high == 0
    && [1, 2, 3, 4].contains strat
    && [0, 1, 2, 3, 4].contains wsel
    && [0, 1, 2].contains kind
    && (!([1, 2, 3].contains strat) || var == 0)
    && (strat != 4 || [0, 1, 2].contains var)
    && (!(strat == 4 && var == 2) || wsel == 2)
    && (!([2, 4].contains strat) || kind == 0)
    && (kind != 2 || floatWidths.contains (8 * 2 ^ wsel))

/-- `legal` of R89 in this instance of the engine. -/
def legal (c : CmdWord) : Bool := legalWith Config.floatWidths c

/-- The strategy and variant codes (R82, R83). -/
def Datapath.ofCodes : Nat → Nat → Except Reject Datapath
  | 1, 0 => .ok .bc
  | 2, 0 => .ok .vec
  | 3, 0 => .ok .lut
  | 4, 0 => .ok .iterA
  | 4, 1 => .ok .iterB
  | 4, 2 => .ok .iterN
  | 1, _ | 2, _ | 3, _ | 4, _ => .error .variant
  | _, _ => .error .strategy

/-- The kind codes (R84). -/
def Kind.ofCode : Nat → Except Reject Kind
  | 0 => .ok .u
  | 1 => .ok .s
  | 2 => .ok .f
  | _ => .error .kind

/-- The width codes (R85). -/
def Width.ofCode : Nat → Except Reject Width
  | 0 => .ok .w8
  | 1 => .ok .w16
  | 2 => .ok .w32
  | 3 => .ok .w64
  | 4 => .ok .w128
  | _ => .error .width

/-- The form that a word spells, if its codes are assigned and `ZERO` is 0 (R81 to R85). -/
def formOf (c : CmdWord) : Except Reject Form :=
  let f := fieldsOf c
  if f.zero != 0 then .error .zero
  else
    match Datapath.ofCodes f.strat.toNat f.var.toNat with
    | .error r => .error r
    | .ok path =>
      match Kind.ofCode f.kind.toNat with
      | .error r => .error r
      | .ok kind =>
        match Width.ofCode f.wsel.toNat with
        | .error r => .error r
        | .ok width => .ok ⟨path, kind, width⟩

/-- The command of each form of R88. The two F8 forms, legal only where `FLOAT_WIDTHS` holds 8, are
not rows of the opcode table: R88 gives them the family rules R140 and R190 at W = 8, which are the
meanings of `REV.BC.U8` and `REV.LUT.U8`, so their words are other names of those commands (log entry 1). -/
def Form.instr? (f : Form) : Option Instr :=
  match f.path, f.kind, f.width with
  | .bc, .u, .w8 => some .bcU8
  | .bc, .u, .w16 => some .bcU16
  | .bc, .u, .w32 => some .bcU32
  | .bc, .u, .w64 => some .bcU64
  | .bc, .u, .w128 => some .bcU128
  | .bc, .s, .w8 => some .bcS8
  | .bc, .s, .w16 => some .bcS16
  | .bc, .s, .w32 => some .bcS32
  | .bc, .s, .w64 => some .bcS64
  | .bc, .s, .w128 => some .bcS128
  | .bc, .f, .w16 => some .bcF16
  | .bc, .f, .w32 => some .bcF32
  | .bc, .f, .w64 => some .bcF64
  | .bc, .f, .w128 => some .bcF128
  | .vec, .u, .w8 => some .vecU8
  | .vec, .u, .w16 => some .vecU16
  | .vec, .u, .w32 => some .vecU32
  | .vec, .u, .w64 => some .vecU64
  | .vec, .u, .w128 => some .vecU128
  | .lut, .u, .w8 => some .lutU8
  | .lut, .u, .w16 => some .lutU16
  | .lut, .u, .w32 => some .lutU32
  | .lut, .u, .w64 => some .lutU64
  | .lut, .u, .w128 => some .lutU128
  | .lut, .s, .w8 => some .lutS8
  | .lut, .s, .w16 => some .lutS16
  | .lut, .s, .w32 => some .lutS32
  | .lut, .s, .w64 => some .lutS64
  | .lut, .s, .w128 => some .lutS128
  | .lut, .f, .w16 => some .lutF16
  | .lut, .f, .w32 => some .lutF32
  | .lut, .f, .w64 => some .lutF64
  | .lut, .f, .w128 => some .lutF128
  | .iterA, .u, .w8 => some .iterAU8
  | .iterA, .u, .w16 => some .iterAU16
  | .iterA, .u, .w32 => some .iterAU32
  | .iterA, .u, .w64 => some .iterAU64
  | .iterA, .u, .w128 => some .iterAU128
  | .iterB, .u, .w8 => some .iterBU8
  | .iterB, .u, .w16 => some .iterBU16
  | .iterB, .u, .w32 => some .iterBU32
  | .iterB, .u, .w64 => some .iterBU64
  | .iterB, .u, .w128 => some .iterBU128
  | .iterN, .u, .w32 => some .iterNU32
  | .bc, .f, .w8 => some .bcU8
  | .lut, .f, .w8 => some .lutU8
  | _, _, _ => none

/-- Why a form does not exist (R87): the first of the three conditions that it fails. -/
def Form.reject (f : Form) : Reject :=
  if !f.path.admitsKind f.kind then .kindOfStrategy
  else if !f.path.admitsWidth f.width then .nibbleWidth
  else .floatWidth

/-- The command of a form, where R87 lists the form. -/
def Form.decodeWith (floatWidths : List Nat) (f : Form) : Decoded :=
  if f.wellFormedWith floatWidths then
    match f.instr? with
    | some i => .instr i
    | none => .illegal f.reject
  else .illegal f.reject

/-- The decoder (R89), for a given `FLOAT_WIDTHS`: it reads the word alone (R92). -/
def decodeWith (floatWidths : List Nat) (c : CmdWord) : Decoded :=
  match formOf c with
  | .ok f => f.decodeWith floatWidths
  | .error r => .illegal r

/-- The decoder of this instance of the engine (R89). -/
def decode (c : CmdWord) : Decoded := decodeWith Config.floatWidths c

/-- `decode` on a table word: bit 0 is the least significant bit of the one 16-bit word (R80). -/
def decodeTableWord (nbits w : Nat) : Option Instr :=
  match decode (BitVec.ofNat 16 (w % 2 ^ nbits)) with
  | .instr i => some i
  | .illegal _ => none

/-- `STRAT` of R82. -/
def Datapath.strat : Datapath → Nat
  | .bc => 1
  | .vec => 2
  | .lut => 3
  | .iterA | .iterB | .iterN => 4

/-- `VAR` of R83. -/
def Datapath.var : Datapath → Nat
  | .bc | .vec | .lut | .iterA => 0
  | .iterB => 1
  | .iterN => 2

/-- `KIND` of R84. -/
def Kind.code : Kind → Nat
  | .u => 0
  | .s => 1
  | .f => 2

/-- `WSEL` of R85. -/
def Width.code : Width → Nat
  | .w8 => 0
  | .w16 => 1
  | .w32 => 2
  | .w64 => 3
  | .w128 => 4

/-- The word of a form: STRAT·128 + VAR·32 + KIND·8 + WSEL (R81). Every form that the grammar of R93
accepts has one, legal or not. -/
def Form.word (f : Form) : CmdWord :=
  BitVec.ofNat 16 (f.path.strat * 128 + f.path.var * 32 + f.kind.code * 8 + f.width.code)

/-- The encoder: the command word of a command (R88). -/
def encode (i : Instr) : CmdWord := i.form.word

end Sys2Proof
end

