-- ==== Sys2Proof/Machine/Flags.lean ====
section
/-! DEFINITION. The engine has no status flag, condition code or predicate register and no command sets
anything that a later command reads (10_state.md R23); what stands in their place is the 2-bit status that
each response carries (R34). -/

namespace Sys2Proof.Machine

open Sys2Proof

/-- The 2-bit code of a status on the response channel (10_state.md R34): `0b10` and `0b11` are never
produced (60_exceptions.md R274). -/
def Status.code : Status → BitVec 2
  | .ok => 0b00
  | .illegal => 0b01

end Sys2Proof.Machine
end

