-- ==== Sys2Proof/Machine/Bits.lean ====
section
/-! DEFINITION. The operators on bit vectors of 00_scope.md R8 that core Lean does not have, the byte-sequence
reversal (40_common_execution.md R121) and the Byte Reverser in its mask-and-shift form (R120). `&`, `|`,
`<<` and `>>` are `&&&`, `|||`, `<<<` and `>>>` of `BitVec`, all logical and within the width (R8);
`zext_N` and `trunc_W` are `BitVec.setWidth`. -/

namespace Sys2Proof.Machine

open Sys2Proof

/-- `BYTES(W)` = W / 8, the number n of byte lanes of a W-bit value (R6). -/
def byteCount (w : Nat) : Nat := w / 8

/-- `lane(v, j)` = `v[8j+7 : 8j]` (R8), little-endian lane numbering (20_memory.md R56; log entry 7). -/
def lane {w : Nat} (v : BitVec w) (j : Nat) : Byte := v.extractLsb' (8 * j) 8

/-- The value whose lanes 0 to n−1 are `d 0` to `d (n−1)` and whose bits above them are 0. -/
def joinLanes (w : Nat) (d : Nat → Byte) : Nat → BitVec w
  | 0 => 0
  | n + 1 => joinLanes w d n ||| ((d n).setWidth w <<< (8 * n))

/-- `lanes(d_{n-1}, …, d_0)`: the W-bit vector whose lane j is `d j` (R8). -/
def lanes (w : Nat) (d : Nat → Byte) : BitVec w := joinLanes w d (byteCount w)

/-- Every lane replaced by its image under `f`. -/
def mapLanes {w : Nat} (f : Byte → Byte) (v : BitVec w) : BitVec w := lanes w fun j => f (lane v j)

/-- `lsl8(v, s)`: each lane shifted left by s as an 8-bit vector of its own (R8). -/
def lsl8 {w : Nat} (v : BitVec w) (s : Nat) : BitVec w := mapLanes (· <<< s) v

/-- `lsr8(v, s)`: each lane shifted right by s as an 8-bit vector of its own (R8). -/
def lsr8 {w : Nat} (v : BitVec w) (s : Nat) : BitVec w := mapLanes (· >>> s) v

/-- `bcast_n(b)`: the byte b in every lane (R8). -/
def bcast (w : Nat) (b : Byte) : BitVec w := lanes w fun _ => b

/-- `bswap_W`, the byte-sequence reversal: lane j of the result is lane n−1−j of the operand (R121). -/
def bswap {w : Nat} (x : BitVec w) : BitVec w := lanes w fun j => lane x (byteCount w - 1 - j)

/-- `brev8`, the Byte Reverser, by mask and shift on the four bit pairs (R120; R119). -/
def brev8 (b : Byte) : Byte :=
      ((b &&& 0x01) <<< 7) ||| ((b &&& 0x80) >>> 7)
  ||| ((b &&& 0x02) <<< 5) ||| ((b &&& 0x40) >>> 5)
  ||| ((b &&& 0x04) <<< 3) ||| ((b &&& 0x20) >>> 3)
  ||| ((b &&& 0x08) <<< 1) ||| ((b &&& 0x10) >>> 1)

/-- `zext_W(bit(v, 0))`: the lowest bit of v, as a W-bit value (R8). -/
def lowestBit {w : Nat} (v : BitVec w) : BitVec w := (v.extractLsb' 0 1).setWidth w

end Sys2Proof.Machine
end

