-- ==== Sys2Proof/Machine/Operands.lean ====
section
/-! DEFINITION. The one operand form and the one result form of every command (30_encoding.md R86), and how a
W-bit value stands in a 128-bit register (10_state.md R26, R27, R35). -/

namespace Sys2Proof.Machine

open Sys2Proof

/-- The operand of a W-bit command: `opnd_q[W−1:0]`. The bits above are ignored (R35). -/
def State.operand (w : Nat) (s : State) : BitVec w := s.opndQ.setWidth w

/-- The result bus for a W-bit result: `zext_128(y)`, zeros above bit W−1 for every kind (R35, R126). -/
def onBus {w : Nat} (y : BitVec w) : BusWord := y.setWidth 128

/-- A 128-bit register after a W-bit command wrote `y` into the bits that it uses. What stands above
them is in no rule, so it is whatever `above` is: the caller passes a free value (log entry 4). -/
def inRegister {w : Nat} (y : BitVec w) (above : BusWord) : BusWord := y.setWidth 128 ||| (above <<< w)

end Sys2Proof.Machine
end

