-- ==== Sys2Proof/Machine/Ops.lean ====
section
/-! DEFINITION. The named operations on the state: accept, respond, the exception, the host's take and the reset
event, and the writes of the datapath registers. -/

namespace Sys2Proof.Machine

open Sys2Proof

/-- Accept (40_common_execution.md R111): both latches are written together and `phase` becomes BUSY;
nothing else changes. The caller checks that `phase` is IDLE. -/
def State.accept (c : CmdWord) (o : BusWord) (s : State) : State :=
  { s with cmdQ := c, opndQ := o, phase := .busy }

/-- Respond (R112): one response goes out after those before it, and `phase` becomes IDLE. -/
def State.respond (r : Response) (s : State) : State :=
  { s with responses := s.responses ++ [r], phase := .idle }

/-- Respond with status OK and the W-bit result `y` (R112, R126). -/
def State.respondOk {w : Nat} (y : BitVec w) (s : State) : State := s.respond ⟨onBus y, .ok⟩

/-- IllegalCommand, the one exception (60_exceptions.md R271): no strategy runs and no datapath register is
written; the respond step emits `res` = 0 and status ILLEGAL, which is "the whole of trap entry" (R277).
It saves nothing, so there is no return from it and nothing to restore (R278). -/
def State.takeIllegalCommand (s : State) : State := s.respond ⟨0, .illegal⟩

/-- The host takes the oldest response, if there is one (10_state.md R34, 60_exceptions.md R285). -/
def State.takeResponse (s : State) : State := { s with responses := s.responses.tail }

/-- The reset event (70_reset_and_hazards.md R300): `phase` becomes IDLE, the response channel is emptied, a
command in flight is dropped (R302), and every register takes an unspecified value, here a free one
(10_state.md R32; log entry 3). What the host goes on to do is its own affair (R302). -/
def State.resetEvent (s : State) : State :=
  { s with
    phase := .idle
    responses := []
    cmdQ := (Config.freeBits s.drawn).setWidth 16
    opndQ := Config.freeBits (s.drawn + 1)
    vy := Config.freeBits (s.drawn + 2)
    acc := Config.freeBits (s.drawn + 3)
    src := Config.freeBits (s.drawn + 4)
    off := (Config.freeBits (s.drawn + 5)).setWidth 8
    cnt := (Config.freeBits (s.drawn + 6)).setWidth 8
    drawn := s.drawn + 7 }

/-- Write `vy` at width W (10_state.md R26); the bits above W are free (log entry 4). -/
def State.setVy {w : Nat} (y : BitVec w) (s : State) : State :=
  { s with vy := inRegister y (Config.freeBits s.drawn), drawn := s.drawn + 1 }

/-- Write `acc` at width W (10_state.md R27); the bits above W are free (log entry 4). -/
def State.setAcc {w : Nat} (y : BitVec w) (s : State) : State :=
  { s with acc := inRegister y (Config.freeBits s.drawn), drawn := s.drawn + 1 }

/-- Write `src` at width W (10_state.md R27); the bits above W are free (log entry 4). -/
def State.setSrc {w : Nat} (y : BitVec w) (s : State) : State :=
  { s with src := inRegister y (Config.freeBits s.drawn), drawn := s.drawn + 1 }

/-- Write `off` (10_state.md R28). -/
def State.setOff (v : Counter) (s : State) : State := { s with off := v }

/-- Write `cnt` (10_state.md R29). -/
def State.setCnt (v : Counter) (s : State) : State := { s with cnt := v }

end Sys2Proof.Machine
end

