-- ==== Sys2Proof/Machine/ByteComposition.lean ====
section
/-! DEFINITION. The Byte-Composition Strategy, REV.BC (41_byte_composition.md). Kinds U, S and F of one width
share one datapath: the kind takes no part (40_common_execution.md R123, R126). -/

namespace Sys2Proof.Machine

open Sys2Proof

/-- `BC_W` (R140): the bytes in reverse order, each mirrored by the mask-and-shift Byte Reverser. -/
def bcRev {w : Nat} (x : BitVec w) : BitVec w := mapLanes brev8 (bswap x)

/-- A REV.BC command at width w (R140): `vy` takes the byte-reversed operand, each used lane is replaced
by its mirror, and `res` is `zext_128(vy[W−1:0])`. No table is read (20_memory.md R65). -/
def runBc (w : Nat) (s : State) : Answer :=
  let y := bcRev (s.operand w)
  .next ((s.setVy y).respondOk y)

/-- `REV.BC.U8` (R141). -/
def execBcU8 (s : State) : Answer := runBc 8 s

/-- `REV.BC.U16` (R142). -/
def execBcU16 (s : State) : Answer := runBc 16 s

/-- `REV.BC.U32` (R143). -/
def execBcU32 (s : State) : Answer := runBc 32 s

/-- `REV.BC.U64` (R144). -/
def execBcU64 (s : State) : Answer := runBc 64 s

/-- `REV.BC.U128` (R145). -/
def execBcU128 (s : State) : Answer := runBc 128 s

/-- `REV.BC.S8` (R146). -/
def execBcS8 (s : State) : Answer := runBc 8 s

/-- `REV.BC.S16` (R147). -/
def execBcS16 (s : State) : Answer := runBc 16 s

/-- `REV.BC.S32` (R148). -/
def execBcS32 (s : State) : Answer := runBc 32 s

/-- `REV.BC.S64` (R149). -/
def execBcS64 (s : State) : Answer := runBc 64 s

/-- `REV.BC.S128` (R150). -/
def execBcS128 (s : State) : Answer := runBc 128 s

/-- `REV.BC.F16` (R151). -/
def execBcF16 (s : State) : Answer := runBc 16 s

/-- `REV.BC.F32` (R152). -/
def execBcF32 (s : State) : Answer := runBc 32 s

/-- `REV.BC.F64` (R153). -/
def execBcF64 (s : State) : Answer := runBc 64 s

/-- `REV.BC.F128` (R154). -/
def execBcF128 (s : State) : Answer := runBc 128 s

end Sys2Proof.Machine
end

