-- ==== Sys2Proof/Machine/Iterative.lean ====
section
/-! DEFINITION. The Iterative Shift-Accumulate Strategy, REV.ITER (44_iterative.md): the barrel's registers at
width W, one definition for the body of each loop, and each loop run to its own exit test inside one
step (R220). The fuel of a loop only bounds the recursion: it exceeds the number of iterations that the
rule gives (R222, R225, R226), so it is the test that ends the loop. -/

namespace Sys2Proof.Machine

open Sys2Proof

/-- The registers of shape (a) and of the nibble variant, `acc` and `src` taken at width W (R221, R226). -/
structure CountedBarrel (w : Nat) where
  acc : BitVec w
  src : BitVec w
  cnt : Counter
deriving DecidableEq, Repr

/-- The registers of shape (b), `acc` and `src` taken at width W (R223). -/
structure OffsetBarrel (w : Nat) where
  acc : BitVec w
  src : BitVec w
  off : Counter
deriving DecidableEq, Repr

/-- The first line of `ITA_W` (R221) and of `ITN_32` (R226). -/
def countedStart {w : Nat} (x : BitVec w) : CountedBarrel w := ⟨0, x, 0⟩

/-- One iteration of shape (a) (R221): all three assignments use the values from before it. -/
def itaBody {w : Nat} (r : CountedBarrel w) : CountedBarrel w :=
  { acc := (r.acc <<< 1) ||| lowestBit r.src
    src := r.src >>> 1
    cnt := r.cnt + 1 }

/-- `while cnt != W` of R221. -/
def itaLoop {w : Nat} : Nat → CountedBarrel w → CountedBarrel w
  | 0, r => r
  | fuel + 1, r => if r.cnt = BitVec.ofNat 8 w then r else itaLoop fuel (itaBody r)

/-- The barrel's registers when `ITA_W` ends (R221). -/
def itaFinal {w : Nat} (x : BitVec w) : CountedBarrel w := itaLoop (w + 1) (countedStart x)

/-- The first line of `ITB_W` (R223): the zeroing of `acc` is part of every command (R225, R312). -/
def offsetStart {w : Nat} (x : BitVec w) : OffsetBarrel w := ⟨0, x, BitVec.ofNat 8 (w - 1)⟩

/-- One iteration of shape (b) (R223): the lowest bit of `src` is placed at position `off`; `off` is
decremented modulo 256 (R28), after the last iteration too (R225, R313). -/
def itbBody {w : Nat} (r : OffsetBarrel w) : OffsetBarrel w :=
  { acc := r.acc ||| (lowestBit r.src <<< r.off.toNat)
    src := r.src >>> 1
    off := r.off - 1 }

/-- `while src != 0` of R223. -/
def itbLoop {w : Nat} : Nat → OffsetBarrel w → OffsetBarrel w
  | 0, r => r
  | fuel + 1, r => if r.src = 0 then r else itbLoop fuel (itbBody r)

/-- The barrel's registers when `ITB_W` ends (R223). -/
def itbFinal {w : Nat} (x : BitVec w) : OffsetBarrel w := itbLoop (w + 1) (offsetStart x)

/-- Nibble `cnt` of `src`, lowest first: `(src >> (4 * cnt))[3:0]` (R226). -/
def itnNibble (r : CountedBarrel 32) : Nibble := (r.src >>> (4 * r.cnt.toNat)).extractLsb' 0 4

/-- One iteration of the nibble variant (R226): one read of `NTAB`; `src` is not changed. -/
def itnBody (r : CountedBarrel 32) : CountedBarrel 32 :=
  { acc := r.acc ||| ((ntab (itnNibble r)).setWidth 32 <<< (28 - 4 * r.cnt.toNat))
    src := r.src
    cnt := r.cnt + 1 }

/-- `while cnt != 8` of R226. -/
def itnLoop : Nat → CountedBarrel 32 → CountedBarrel 32
  | 0, r => r
  | fuel + 1, r => if r.cnt = 8 then r else itnLoop fuel (itnBody r)

/-- The barrel's registers when `ITN_32` ends (R226). -/
def itnFinal (x : BitVec 32) : CountedBarrel 32 := itnLoop 9 (countedStart x)

/-- A REV.ITER.A command at width w (R221): it writes `acc`, `src`, `cnt` and the response. -/
def runIterA (w : Nat) (s : State) : Answer :=
  let r := itaFinal (s.operand w)
  .next ((((s.setAcc r.acc).setSrc r.src).setCnt r.cnt).respondOk r.acc)

/-- A REV.ITER.B command at width w (R223): it writes `acc`, `src`, `off` and the response. -/
def runIterB (w : Nat) (s : State) : Answer :=
  let r := itbFinal (s.operand w)
  .next ((((s.setAcc r.acc).setSrc r.src).setOff r.off).respondOk r.acc)

/-- The REV.ITER.N command (R226), width 32 only: it writes `acc`, `src`, `cnt` and the response. `NTAB`
is read, `BTAB` is not (20_memory.md R65). -/
def runIterN (s : State) : Answer :=
  let r := itnFinal (s.operand 32)
  .next ((((s.setAcc r.acc).setSrc r.src).setCnt r.cnt).respondOk r.acc)

/-- `REV.ITER.A.U8` (R228). -/
def execIterAU8 (s : State) : Answer := runIterA 8 s

/-- `REV.ITER.A.U16` (R229). -/
def execIterAU16 (s : State) : Answer := runIterA 16 s

/-- `REV.ITER.A.U32` (R230). -/
def execIterAU32 (s : State) : Answer := runIterA 32 s

/-- `REV.ITER.A.U64` (R231). -/
def execIterAU64 (s : State) : Answer := runIterA 64 s

/-- `REV.ITER.A.U128` (R232). -/
def execIterAU128 (s : State) : Answer := runIterA 128 s

/-- `REV.ITER.B.U8` (R233). -/
def execIterBU8 (s : State) : Answer := runIterB 8 s

/-- `REV.ITER.B.U16` (R234). -/
def execIterBU16 (s : State) : Answer := runIterB 16 s

/-- `REV.ITER.B.U32` (R235). -/
def execIterBU32 (s : State) : Answer := runIterB 32 s

/-- `REV.ITER.B.U64` (R236). -/
def execIterBU64 (s : State) : Answer := runIterB 64 s

/-- `REV.ITER.B.U128` (R237). -/
def execIterBU128 (s : State) : Answer := runIterB 128 s

/-- `REV.ITER.N.U32` (R238). -/
def execIterNU32 (s : State) : Answer := runIterN s

end Sys2Proof.Machine
end

