-- ==== Sys2Proof/Machine/LookupTable.lean ====
section
/-! DEFINITION. The Lookup-Table Strategy, REV.LUT (43_lookup_table.md). Kinds U, S and F of one width share
one datapath: the kind takes no part (40_common_execution.md R123, R126). -/

namespace Sys2Proof.Machine

open Sys2Proof

/-- `LUT_W` (R190): one read of `BTAB` for each byte of the byte-reversed operand; at W = 8 the one read
`BTAB[x]` (R191). -/
def lutRev {w : Nat} (x : BitVec w) : BitVec w := mapLanes btab (bswap x)

/-- A REV.LUT command at width w (R190): `vy` takes the byte-reversed operand and keeps it; `res` is made
of the entries read. `BTAB` is read, `NTAB` is not (20_memory.md R65). -/
def runLut (w : Nat) (s : State) : Answer :=
  .next ((s.setVy (bswap (s.operand w))).respondOk (lutRev (s.operand w)))

/-- `REV.LUT.U8` (R192). -/
def execLutU8 (s : State) : Answer := runLut 8 s

/-- `REV.LUT.U16` (R193). -/
def execLutU16 (s : State) : Answer := runLut 16 s

/-- `REV.LUT.U32` (R194). -/
def execLutU32 (s : State) : Answer := runLut 32 s

/-- `REV.LUT.U64` (R195). -/
def execLutU64 (s : State) : Answer := runLut 64 s

/-- `REV.LUT.U128` (R196). -/
def execLutU128 (s : State) : Answer := runLut 128 s

/-- `REV.LUT.S8` (R197). -/
def execLutS8 (s : State) : Answer := runLut 8 s

/-- `REV.LUT.S16` (R198). -/
def execLutS16 (s : State) : Answer := runLut 16 s

/-- `REV.LUT.S32` (R199). -/
def execLutS32 (s : State) : Answer := runLut 32 s

/-- `REV.LUT.S64` (R200). -/
def execLutS64 (s : State) : Answer := runLut 64 s

/-- `REV.LUT.S128` (R201). -/
def execLutS128 (s : State) : Answer := runLut 128 s

/-- `REV.LUT.F16` (R202). -/
def execLutF16 (s : State) : Answer := runLut 16 s

/-- `REV.LUT.F32` (R203). -/
def execLutF32 (s : State) : Answer := runLut 32 s

/-- `REV.LUT.F64` (R204). -/
def execLutF64 (s : State) : Answer := runLut 64 s

/-- `REV.LUT.F128` (R205). -/
def execLutF128 (s : State) : Answer := runLut 128 s

end Sys2Proof.Machine
end

