-- ==== Sys2Proof/Machine/Vectorized.lean ====
section
/-! DEFINITION. The Vectorized Strategy, REV.VEC (42_vectorized.md). -/

namespace Sys2Proof.Machine

open Sys2Proof

/-- `m_k`: the byte 2^k in every lane (R170). -/
def vecMask (w k : Nat) : BitVec w := bcast w (1#8 <<< k)

/-- `s_k` (R170): bit k of every byte, isolated by the mask and moved to place 7−k of its byte. -/
def vecTerm {w : Nat} (v : BitVec w) (k : Nat) : BitVec w :=
  if k ≤ 3 then lsl8 (v &&& vecMask w k) (7 - 2 * k) else lsr8 (v &&& vecMask w k) (2 * k - 7)

/-- The eight mask-shift-OR steps of R170 on the lanes of `v`, in the order k = 0 to 7. -/
def vecSteps {w : Nat} (v : BitVec w) : BitVec w :=
  (List.range 8).foldl (fun r k => r ||| vecTerm v k) 0

/-- The lanes of `v` that pass p of a datapath with `lanesPerPass` lanes works on, the others 0 (R171). -/
def laneGroup {w : Nat} (lanesPerPass p : Nat) (v : BitVec w) : BitVec w :=
  lanes w fun j => if j / lanesPerPass = p then lane v j else 0

/-- The eight steps applied to the lanes in groups of `lanesPerPass`, lowest group first (R171). With
`LANES` = 16 every width is one pass. -/
def vecPasses {w : Nat} (lanesPerPass : Nat) (v : BitVec w) : BitVec w :=
  (List.range ((byteCount w + lanesPerPass - 1) / lanesPerPass)).foldl
    (fun r p => r ||| vecSteps (laneGroup lanesPerPass p v)) 0

/-- `VEC_W` (R170) on a datapath with `lanesPerPass` byte lanes (R171). -/
def vecRevWith {w : Nat} (lanesPerPass : Nat) (x : BitVec w) : BitVec w := vecPasses lanesPerPass (bswap x)

/-- `VEC_W` (R170) on this instance's `LANES` lanes. -/
def vecRev {w : Nat} (x : BitVec w) : BitVec w := vecRevWith Config.lanes x

/-- A REV.VEC command at width w (R170): `vy` takes the byte-reversed operand and keeps it; `res` is the
OR of the eight shifted terms. No table is read (20_memory.md R65). -/
def runVec (w : Nat) (s : State) : Answer :=
  .next ((s.setVy (bswap (s.operand w))).respondOk (vecRev (s.operand w)))

/-- `REV.VEC.U8` (R172). -/
def execVecU8 (s : State) : Answer := runVec 8 s

/-- `REV.VEC.U16` (R173). -/
def execVecU16 (s : State) : Answer := runVec 16 s

/-- `REV.VEC.U32` (R174). -/
def execVecU32 (s : State) : Answer := runVec 32 s

/-- `REV.VEC.U64` (R175). -/
def execVecU64 (s : State) : Answer := runVec 64 s

/-- `REV.VEC.U128` (R176). -/
def execVecU128 (s : State) : Answer := runVec 128 s

end Sys2Proof.Machine
end

