-- ==== Sys2Proof/Machine/Dispatch.lean ====
section
/-! DEFINITION. Dispatch (40_common_execution.md R126): the execution of each of the 44 commands on the operand
held in `opnd_q`, up to and including its respond step (R112). -/

namespace Sys2Proof.Machine

open Sys2Proof

def exec (i : Instr) (s : State) : Host.Outcome State Fault Refusal :=
  match i with
  | .bcU8 => Sys2Proof.Machine.execBcU8 s
  | .bcU16 => Sys2Proof.Machine.execBcU16 s
  | .bcU32 => Sys2Proof.Machine.execBcU32 s
  | .bcU64 => Sys2Proof.Machine.execBcU64 s
  | .bcU128 => Sys2Proof.Machine.execBcU128 s
  | .bcS8 => Sys2Proof.Machine.execBcS8 s
  | .bcS16 => Sys2Proof.Machine.execBcS16 s
  | .bcS32 => Sys2Proof.Machine.execBcS32 s
  | .bcS64 => Sys2Proof.Machine.execBcS64 s
  | .bcS128 => Sys2Proof.Machine.execBcS128 s
  | .bcF16 => Sys2Proof.Machine.execBcF16 s
  | .bcF32 => Sys2Proof.Machine.execBcF32 s
  | .bcF64 => Sys2Proof.Machine.execBcF64 s
  | .bcF128 => Sys2Proof.Machine.execBcF128 s
  | .vecU8 => Sys2Proof.Machine.execVecU8 s
  | .vecU16 => Sys2Proof.Machine.execVecU16 s
  | .vecU32 => Sys2Proof.Machine.execVecU32 s
  | .vecU64 => Sys2Proof.Machine.execVecU64 s
  | .vecU128 => Sys2Proof.Machine.execVecU128 s
  | .lutU8 => Sys2Proof.Machine.execLutU8 s
  | .lutU16 => Sys2Proof.Machine.execLutU16 s
  | .lutU32 => Sys2Proof.Machine.execLutU32 s
  | .lutU64 => Sys2Proof.Machine.execLutU64 s
  | .lutU128 => Sys2Proof.Machine.execLutU128 s
  | .lutS8 => Sys2Proof.Machine.execLutS8 s
  | .lutS16 => Sys2Proof.Machine.execLutS16 s
  | .lutS32 => Sys2Proof.Machine.execLutS32 s
  | .lutS64 => Sys2Proof.Machine.execLutS64 s
  | .lutS128 => Sys2Proof.Machine.execLutS128 s
  | .lutF16 => Sys2Proof.Machine.execLutF16 s
  | .lutF32 => Sys2Proof.Machine.execLutF32 s
  | .lutF64 => Sys2Proof.Machine.execLutF64 s
  | .lutF128 => Sys2Proof.Machine.execLutF128 s
  | .iterAU8 => Sys2Proof.Machine.execIterAU8 s
  | .iterAU16 => Sys2Proof.Machine.execIterAU16 s
  | .iterAU32 => Sys2Proof.Machine.execIterAU32 s
  | .iterAU64 => Sys2Proof.Machine.execIterAU64 s
  | .iterAU128 => Sys2Proof.Machine.execIterAU128 s
  | .iterBU8 => Sys2Proof.Machine.execIterBU8 s
  | .iterBU16 => Sys2Proof.Machine.execIterBU16 s
  | .iterBU32 => Sys2Proof.Machine.execIterBU32 s
  | .iterBU64 => Sys2Proof.Machine.execIterBU64 s
  | .iterBU128 => Sys2Proof.Machine.execIterBU128 s
  | .iterNU32 => Sys2Proof.Machine.execIterNU32 s

end Sys2Proof.Machine
end

