-- ==== Sys2Proof/Machine/Engine.lean ====
section
/-! DEFINITION. The steps of the engine and of its host (40_common_execution.md R110 to R112, 60_exceptions.md
R285): the host's next move decides, and where the host lets the engine go on, the engine executes and
answers the command it holds. -/

namespace Sys2Proof.Machine

open Sys2Proof

/-- Decode, dispatch and respond (R112, R126) on an engine with the given `FLOAT_WIDTHS` (00_scope.md R6): the
held word is decoded (30_encoding.md R89); a legal command is executed, an illegal word is answered ILLEGAL
(60_exceptions.md R271). -/
def State.answerHeldWith (floatWidths : List Nat) (s : State) : Answer :=
  match decodeWith floatWidths s.cmdQ with
  | .instr i => exec i s
  | .illegal _ => .next s.takeIllegalCommand

/-- What the engine does, for the given `FLOAT_WIDTHS`, when the host lets it: BUSY, it answers the command it
holds; IDLE, it waits (10_state.md R25, 60_exceptions.md R284). -/
def State.engineMove (floatWidths : List Nat) (s : State) : Answer :=
  match s.phase with
  | .idle => .next s
  | .busy => s.answerHeldWith floatWidths

/-- One step of host and engine together, for an engine with the given `FLOAT_WIDTHS` (R6). A reset takes
precedence over everything (60_exceptions.md R276). A command is accepted when `phase` is IDLE (R111); while
it is BUSY the presented command waits, is not lost and does not touch the latches (10_state.md R33,
70_reset_and_hazards.md R311), and the engine goes on. -/
def State.turn (floatWidths : List Nat) (s : State) : Answer :=
  match s.host with
  | [] => s.engineMove floatWidths
  | .quiet :: rest => State.engineMove floatWidths { s with host := rest }
  | .take :: rest => .next (State.takeResponse { s with host := rest })
  | .reset :: rest => .next (State.resetEvent { s with host := rest })
  | .present c o :: rest =>
    match s.phase with
    | .idle => .next (State.accept c o { s with host := rest })
    | .busy => s.engineMove floatWidths

/-- The engine with the given `FLOAT_WIDTHS`, the one OPEN parameter that a response depends on
(R6): any set of widths may be given. Reset does not depend on it (10_state.md R32). -/
def coreWith (floatWidths : List Nat) : Host.Core :=
  { State := State, Fault := Fault, Refusal := Refusal, step := State.turn floatWidths, reset := State.reset }

/-- `State.answerHeldWith` of this instance of the engine. -/
def State.answerHeld (s : State) : Answer := s.answerHeldWith Config.floatWidths

/-- The host's moves with a `quiet` in front where the first one would come before the engine's step. -/
def letEngineMove : List HostMove → List HostMove
  | .take :: rest => .quiet :: .take :: rest
  | .reset :: rest => .quiet :: .reset :: rest
  | moves => moves

/-- `s` with the word `w` accepted (R111) and about to be decoded: it is in `cmd_q` and `phase` is BUSY.
The operand stays what `opnd_q` holds. -/
def State.holding (w : CmdWord) (s : State) : State :=
  { s with cmdQ := w, phase := .busy, host := letEngineMove s.host }

end Sys2Proof.Machine
end

