-- ==== Sys2Proof/Machine/Step.lean ====
section
/-! DEFINITION. The step of the machine. The engine has no program counter and fetches nothing (10_state.md R22):
its next instruction is the word in `cmd_q` while `phase` is BUSY. -/

namespace Sys2Proof.Machine

open Sys2Proof

/-- One step of this instance of the engine: `State.turn` at its `FLOAT_WIDTHS`. -/
def step (s : State) : Host.Outcome State Fault Refusal := s.turn Config.floatWidths

/-- The state in which the very next step runs the word `w`: the accept step of R111 has latched it. An
instruction is one 16-bit word (30_encoding.md R80), so the bits of `w` above 15 are not there (log entry 6). -/
def State.withFetchWord (s : State) (nbits w : Nat) : State := s.holding (BitVec.ofNat 16 (w % 2 ^ nbits))

end Sys2Proof.Machine
end

