-- ==== Sys2Proof/Machine/Assembler.lean ====
section
/-! DEFINITION. The textual form of commands and responses (30_encoding.md R93), on lists of characters. The
engine reads no text: the host writes commands down this way. Log entry 9. -/

namespace Sys2Proof.Machine

open Sys2Proof

/-- `strat` of the grammar, with `var` after ITER. -/
def Datapath.text : Datapath → List Char
  | .bc => ['B', 'C']
  | .vec => ['V', 'E', 'C']
  | .lut => ['L', 'U', 'T']
  | .iterA => ['I', 'T', 'E', 'R', '.', 'A']
  | .iterB => ['I', 'T', 'E', 'R', '.', 'B']
  | .iterN => ['I', 'T', 'E', 'R', '.', 'N']

/-- `kind` of the grammar. -/
def Kind.text : Kind → List Char
  | .u => ['U']
  | .s => ['S']
  | .f => ['F']

/-- `width` of the grammar. -/
def Width.text : Width → List Char
  | .w8 => ['8']
  | .w16 => ['1', '6']
  | .w32 => ['3', '2']
  | .w64 => ['6', '4']
  | .w128 => ['1', '2', '8']

/-- `mnemonic` of the grammar (R93): every form has one, legal or not. -/
def Form.mnemonic (f : Form) : List Char :=
  ['R', 'E', 'V', '.'] ++ Datapath.text f.path ++ ['.'] ++ Kind.text f.kind ++ Width.text f.width

/-- Every form that the grammar of R93 spells. -/
def allForms : List Form :=
  [Datapath.bc, .vec, .lut, .iterA, .iterB, .iterN].flatMap fun p =>
    [Kind.u, .s, .f].flatMap fun k =>
      [Width.w8, .w16, .w32, .w64, .w128].map fun w => ⟨p, k, w⟩

/-- The form that a mnemonic spells. There are no pseudo-instructions (R94). -/
def readMnemonic (text : List Char) : Option Form := allForms.find? fun f => Form.mnemonic f == text

/-- The digits of a literal in the order of their values, as the spec writes them (R7). -/
def digitOrder : List Char := "0123456789ABCDEF".toList

/-- The value of a digit of an operand literal is its place in the order; a letter may be small. -/
def digitValue (c : Char) : Option Nat :=
  let place := digitOrder.idxOf c.toUpper
  if place < digitOrder.length then some place else none

/-- Digits in a base, most significant first, onto the number already read. -/
def readDigits (base : Nat) : Nat → List Char → Option Nat
  | n, [] => some n
  | n, c :: rest =>
    match digitValue c with
    | some d => if d < base then readDigits base (base * n + d) rest else none
    | none => none

/-- `operand` of the grammar (R93): hexadecimal, binary or decimal, with at least one digit. -/
def readOperand : List Char → Option Nat
  | '0' :: 'x' :: d :: rest => readDigits 16 0 (d :: rest)
  | '0' :: 'b' :: d :: rest => readDigits 2 0 (d :: rest)
  | d :: rest => readDigits 10 0 (d :: rest)
  | [] => none

/-- `command` of the grammar (R93): a mnemonic, spaces, an operand that fits in W bits; it is placed in
`opnd[W−1:0]` with zeros above. A form that R87 does not list has its word all the same. -/
def assemble (text : List Char) : Option (CmdWord × BusWord) :=
  match readMnemonic (text.takeWhile (· != ' ')) with
  | none => none
  | some f =>
    match readOperand ((text.dropWhile (· != ' ')).dropWhile (· == ' ')) with
    | none => none
    | some n => if n < 2 ^ f.width.bits then some (f.word, BitVec.ofNat 128 n) else none

/-- The character of a hexadecimal digit. -/
def hexDigit (n : Nat) : Char := digitOrder.getD n '0'

/-- The last `digits` hexadecimal digits of a number, most significant first. -/
def hexText : Nat → Nat → List Char
  | 0, _ => []
  | digits + 1, n => hexText digits (n / 16) ++ [hexDigit (n % 16)]

/-- A response as R93 writes it down: W/4 digits for status OK, 0 for status ILLEGAL. -/
def Response.text (width : Width) (r : Response) : List Char :=
  match r.status with
  | .ok =>
    ['-', '>', ' ', 'r', 'e', 's', '='] ++ hexText (width.bits / 4) r.res.toNat
      ++ [' ', 's', 't', 'a', 't', 'u', 's', '=', 'O', 'K']
  | .illegal =>
    ['-', '>', ' ', 'r', 'e', 's', '=', '0']
      ++ [' ', 's', 't', 'a', 't', 'u', 's', '=', 'I', 'L', 'L', 'E', 'G', 'A', 'L']

end Sys2Proof.Machine
end

