-- ==== Sys2Proof/Machine/Reference.lean ====
section
/-! DEFINITION. The reference meaning of bit reversal, which no datapath calls and which calls none of them
(45_naive_reference.md R264): `rev_W` bit by bit (40_common_execution.md R113), the naive strategy on text
(45_naive_reference.md R260), and the master rule `exec(c, o)` (R114). -/

namespace Sys2Proof.Machine

open Sys2Proof

/-- The n-bit value whose bit k is `f k`. -/
def ofBits : (n : Nat) → (Nat → Bool) → BitVec n
  | 0, _ => 0#0
  | n + 1, f => BitVec.cons (f n) (ofBits n f)

/-- `rev_W(x)`: bit k of the result is bit W−1−k of x (R113). -/
def rev {w : Nat} (x : BitVec w) : BitVec w := ofBits w fun k => x.getLsbD (w - 1 - k)

/-- Formatting (R260): W characters, most significant digit first, zero-padded. -/
def binaryText {w : Nat} (x : BitVec w) : List Char :=
  (List.range w).map fun p => if x.getLsbD (w - 1 - p) then '1' else '0'

/-- Base-2 parsing, most significant digit first, onto the digits already read; any other character
is a parse error (R260, R263). -/
def parseDigits : Nat → List Char → Option Nat
  | n, [] => some n
  | n, c :: rest =>
    if c = '0' then parseDigits (2 * n) rest
    else if c = '1' then parseDigits (2 * n + 1) rest
    else none

/-- The re-parse into a W-bit value (R260): it fails on a malformed digit and on a number that does not
fit (R263). -/
def parseText (w : Nat) (text : List Char) : Option (BitVec w) :=
  match parseDigits 0 text with
  | some n => if n < 2 ^ w then some (BitVec.ofNat w n) else none
  | none => none

/-- `NAIVE_W(x)` (R260): format, reverse the character sequence, parse. -/
def naiveRev {w : Nat} (x : BitVec w) : Option (BitVec w) := parseText w (binaryText x).reverse

/-- `L(x)` (44_iterative.md R225): 0 for x = 0, else 1 + the position of the highest set bit of x. -/
def bitLength {w : Nat} (x : BitVec w) : Nat := if x = 0 then 0 else x.toNat.log2 + 1

/-- The master rule `exec(c, o)` (R114), for a given `FLOAT_WIDTHS`: from the word's width and the operand
alone, whatever the strategy, the variant and the kind. -/
def masterRuleWith (floatWidths : List Nat) (c : CmdWord) (o : BusWord) : Response :=
  if legalWith floatWidths c then
    ⟨(rev (o.setWidth (selectedWidth c))).setWidth 128, .ok⟩
  else ⟨0, .illegal⟩

/-- The master rule of this instance of the engine (R114). -/
def masterRule (c : CmdWord) (o : BusWord) : Response := masterRuleWith Config.floatWidths c o

end Sys2Proof.Machine
end

