-- ==== Sys2Proof/Safety.lean ====
section
/-! DEFINITION. The terms that claims about the engine use: what it is to hold a command and to answer it, what a
command leaves alone, what the host can tell apart, and which commands its responses answer. -/

namespace Sys2Proof.Machine

open Sys2Proof

/-- The host lets the engine make its move and nothing is used up: no move is left, or the next one
presents a command. -/
def EngineToMove (s : State) : Prop :=
  s.host = [] ∨ ∃ c o rest, s.host = HostMove.present c o :: rest

/-- The engine has accepted the command (c, o), has not answered it, and is about to (10_state.md R25). -/
def Holds (c : CmdWord) (o : BusWord) (s : State) : Prop :=
  s.phase = .busy ∧ s.cmdQ = c ∧ s.opndQ = o ∧ EngineToMove s

/-- `t` is `s` with the held command answered by `r` (R112): one response more, `phase` IDLE, and the
latches and the host's moves as they were. -/
def Answered (r : Response) (s t : State) : Prop :=
  t.phase = .idle ∧ t.responses = s.responses ++ [r] ∧ t.cmdQ = s.cmdQ ∧ t.opndQ = s.opndQ ∧ t.host = s.host

/-- The lane register is as it was. -/
def SameLanes (s t : State) : Prop := t.vy = s.vy

/-- The barrel's registers are as they were. -/
def SameBarrel (s t : State) : Prop := t.acc = s.acc ∧ t.src = s.src ∧ t.off = s.off ∧ t.cnt = s.cnt

/-- The response to the command (c, o) is `r`, in every state that holds it (R20: a function of the word
and the operand alone). -/
def Responds (c : CmdWord) (o : BusWord) (r : Response) : Prop :=
  ∀ s, Holds c o s → ∃ t, step s = .next t ∧ Answered r s t

/-- What the host can tell of a state, with the command in flight (10_state.md R31): two states that agree
here may differ in `vy`, `acc`, `src`, `off`, `cnt`, in the latches when idle, and in the free values. -/
def Indistinguishable (s t : State) : Prop :=
  s.phase = t.phase ∧ s.responses = t.responses ∧ s.host = t.host
    ∧ (s.phase = .busy → s.cmdQ = t.cmdQ ∧ s.opndQ = t.opndQ)

/-- `log` is what the engine has accepted since the last reset and the host has not taken the response to,
oldest first: each answered command has the response on the channel that the master rule gives to it, at
its place in the order of acceptance (10_state.md R34, R114), and while the engine is BUSY the last entry
is the command that it holds and has not answered (R25). -/
def Accounted (log : List (CmdWord × BusWord)) (s : State) : Prop :=
  match s.phase with
  | .idle => s.responses = log.map fun p => masterRule p.1 p.2
  | .busy => ∃ answered, log = answered ++ [(s.cmdQ, s.opndQ)]
      ∧ s.responses = answered.map fun p => masterRule p.1 p.2

/-- What one step from `s` does to such a log: an accept adds the command at the end (R111), taking a response
removes the oldest command, and a reset empties it (70_reset_and_hazards.md R300, R302). -/
def accountStep (s : State) (log : List (CmdWord × BusWord)) : List (CmdWord × BusWord) :=
  match s.host with
  | [] | .quiet :: _ => log
  | .take :: _ => if s.responses = [] then log else log.tail
  | .reset :: _ => []
  | .present c o :: _ =>
    match s.phase with
    | .idle => log ++ [(c, o)]
    | .busy => log

/-- A sequence of commands as the host presents it (40_common_execution.md R125). -/
def presented (commands : List (CmdWord × BusWord)) : List HostMove :=
  commands.map fun p => HostMove.present p.1 p.2

end Sys2Proof.Machine
end

