-- ==== Sys2Proof/Certificates/Slice0/Obligations.lean ====
section
/-! DEFINITION. The statements about the engine that are put to the provers. A legal command is written by its
constructor, or by its word where the statement is about words. -/

namespace Sys2Proof.Machine

open Sys2Proof

/-- What the rule of one command says (41_byte_composition.md R141 to 44_iterative.md R238): its word; for
every state, that the command completes, answers `zext_128(alg x)` with status OK for x = `opnd_q[W−1:0]`,
and writes the registers that `regs` says and no others; the corner cases 0, all ones and the command on
its own result; and that the algorithm is `rev_W`. -/
def CommandRule (i : Instr) (word : CmdWord) (W : Width) (alg : BitVec W.bits → BitVec W.bits)
    (regs : BitVec W.bits → State → State → Prop) : Prop :=
  encode i = word ∧ decode word = .instr i
    ∧ (∀ s, ∃ t, exec i s = .next t
        ∧ Answered ⟨(alg (s.opndQ.setWidth W.bits)).setWidth 128, .ok⟩ s t
        ∧ regs (s.opndQ.setWidth W.bits) s t)
    ∧ alg 0 = 0 ∧ alg (BitVec.allOnes W.bits) = BitVec.allOnes W.bits
    ∧ (∀ x, alg (alg x) = x) ∧ (∀ x, alg x = rev x)

/-- REV.BC leaves the mirrored bytes in `vy` (R140) and the barrel alone. -/
def bcRegs (w : Nat) (x : BitVec w) (s t : State) : Prop := t.vy.setWidth w = bcRev x ∧ SameBarrel s t

/-- REV.VEC and REV.LUT leave the byte-reversed operand in `vy` (R170, R190) and the barrel alone. -/
def byteReversedRegs (w : Nat) (x : BitVec w) (s t : State) : Prop :=
  t.vy.setWidth w = bswap x ∧ SameBarrel s t

/-- REV.ITER.A leaves the result in `acc`, 0 in `src` and W in `cnt` (R222), and `off` and `vy` alone. -/
def iterARegs (w : Nat) (x : BitVec w) (s t : State) : Prop :=
  t.acc.setWidth w = rev x ∧ t.src.setWidth w = 0#w ∧ t.cnt.toNat = w ∧ t.off = s.off ∧ SameLanes s t

/-- REV.ITER.B leaves the result in `acc`, 0 in `src` and W−1−L(x) modulo 256 in `off` (R225), and `cnt`
and `vy` alone. -/
def iterBRegs (w : Nat) (x : BitVec w) (s t : State) : Prop :=
  t.acc.setWidth w = rev x ∧ t.src.setWidth w = 0#w
    ∧ t.off = BitVec.ofInt 8 ((w : Int) - 1 - (bitLength x : Int)) ∧ t.cnt = s.cnt ∧ SameLanes s t

/-- REV.ITER.N leaves the result in `acc`, the operand in `src` and 8 in `cnt` (R226), and `off` and `vy`
alone. -/
def iterNRegs (w : Nat) (x : BitVec w) (s t : State) : Prop :=
  t.acc.setWidth w = rev x ∧ t.src.setWidth w = x ∧ t.cnt.toNat = 8 ∧ t.off = s.off ∧ SameLanes s t

/-- Lane j of the result is the image under `f` of lane n−1−j of the operand (rules R142 to R154, R193 to
R205; at W = 8 the result is the image of the one byte). -/
def LaneRule (W : Width) (alg : BitVec W.bits → BitVec W.bits) (f : Byte → Byte) : Prop :=
  ∀ x j, j < W.bits / 8 → lane (alg x) j = f (lane x (W.bits / 8 - 1 - j))

/-- The kind S remarks of rules R146 to R150 and R197 to R201: the sign bit lands on bit 0, the most
negative value gives 1, −1 gives −1 and −2 gives the largest positive value. -/
def SignedRule (W : Width) (alg : BitVec W.bits → BitVec W.bits) : Prop :=
  (∀ x, (alg x).getLsbD 0 = x.msb) ∧ alg (BitVec.intMin W.bits) = 1#W.bits
    ∧ alg (BitVec.ofInt W.bits (-1)) = BitVec.ofInt W.bits (-1)
    ∧ alg (BitVec.ofInt W.bits (-2)) = BitVec.intMax W.bits

/-- The corner cases of rules R172 to R176: for x = 0 every t_k is 0, for x all ones every t_k is m_k. -/
def VectorCorners (W : Width) : Prop :=
  ∀ k, k < 8 → bswap (0#W.bits) &&& vecMask W.bits k = 0
    ∧ bswap (BitVec.allOnes W.bits) &&& vecMask W.bits k = vecMask W.bits k

/-- The corner cases of rules R233 to R237: no iteration for x = 0; one for x = 1, which places a 1 at
offset W−1; for x with bit W−1 set W iterations, the last at offset 0, after which `off` holds 255; in
general L(x) iterations, of which there are at most W. -/
def OffsetCorners (W : Width) : Prop :=
  itbFinal (0#W.bits) = offsetStart (0#W.bits)
    ∧ itbFinal (1#W.bits) = itbBody (offsetStart (1#W.bits))
    ∧ (offsetStart (1#W.bits)).off.toNat = W.bits - 1
    ∧ (itbFinal (1#W.bits)).acc = BitVec.twoPow W.bits (W.bits - 1)
    ∧ ∀ x : BitVec W.bits,
        bitLength x ≤ W.bits
        ∧ itbFinal x = Nat.iterate itbBody (bitLength x) (offsetStart x)
        ∧ (x.msb = true → bitLength x = W.bits
            ∧ (Nat.iterate itbBody (W.bits - 1) (offsetStart x)).off = 0 ∧ (itbFinal x).off = 255)

/-- The worked examples of R141 to R150. -/
def BcIntegerExamples : Prop :=
  bcRev 0x01#8 = 0x80#8
  ∧ bcRev 0xF0#8 = 0x0F#8
  ∧ bcRev 0x00FF#16 = 0xFF00#16
  ∧ bcRev 0x1234#16 = 0x2C48#16
  ∧ bcRev 0x12345678#32 = 0x1E6A2C48#32
  ∧ bcRev 0x00000001#32 = 0x80000000#32
  ∧ bcRev 0x0123456789ABCDEF#64 = 0xF7B3D591E6A2C480#64
  ∧ bcRev 0x0123456789ABCDEFFEDCBA9876543210#128 = 0x084C2A6E195D3B7FF7B3D591E6A2C480#128
  ∧ bcRev 0x80#8 = 0x01#8
  ∧ bcRev 0x8000#16 = 0x0001#16
  ∧ bcRev 0x80000000#32 = 0x00000001#32
  ∧ bcRev 0x8000000000000000#64 = 0x0000000000000001#64
  ∧ bcRev 0x80000000000000000000000000000000#128 = 0x00000000000000000000000000000001#128

/-- The worked examples of R151 to R154 and R202 to R205. -/
def FloatExamples : Prop :=
  bswap 0x3C00#16 = 0x003C#16
  ∧ bcRev 0x3C00#16 = 0x003C#16
  ∧ lutRev 0x3C00#16 = 0x003C#16
  ∧ bswap 0x3F800000#32 = 0x0000803F#32
  ∧ bcRev 0x3F800000#32 = 0x000001FC#32
  ∧ lutRev 0x3F800000#32 = 0x000001FC#32
  ∧ bswap 0x3FF0000000000000#64 = 0x000000000000F03F#64
  ∧ bcRev 0x3FF0000000000000#64 = 0x0000000000000FFC#64
  ∧ lutRev 0x3FF0000000000000#64 = 0x0000000000000FFC#64
  ∧ bswap 0x3FFF0000000000000000000000000000#128 = 0x0000000000000000000000000000FF3F#128
  ∧ bcRev 0x3FFF0000000000000000000000000000#128 = 0x0000000000000000000000000000FFFC#128
  ∧ lutRev 0x3FFF0000000000000000000000000000#128 = 0x0000000000000000000000000000FFFC#128
  ∧ btab 0x3C = 0x3C ∧ btab 0x3F = 0xFC ∧ btab 0x80 = 0x01 ∧ btab 0x00 = 0x00

/-- The masks and the worked examples of R172 to R176. -/
def VectorExamples : Prop :=
  vecMask 8 0 = 0x01#8
  ∧ vecMask 8 7 = 0x80#8
  ∧ vecMask 16 0 = 0x0101#16
  ∧ vecMask 16 7 = 0x8080#16
  ∧ vecMask 32 0 = 0x01010101#32
  ∧ vecMask 32 7 = 0x80808080#32
  ∧ vecMask 64 0 = 0x0101010101010101#64
  ∧ vecMask 64 7 = 0x8080808080808080#64
  ∧ vecMask 128 0 = 0x01010101010101010101010101010101#128
  ∧ vecMask 128 7 = 0x80808080808080808080808080808080#128
  ∧ bswap 0x12#8 = 0x12#8
  ∧ vecRev 0x12#8 = 0x48#8
  ∧ 0x12#8 &&& vecMask 8 0 = 0x00#8
  ∧ 0x12#8 &&& vecMask 8 7 = 0x00#8
  ∧ vecTerm 0x12#8 0 = 0x00#8
  ∧ vecTerm 0x12#8 7 = 0x00#8
  ∧ bswap 0xBEEF#16 = 0xEFBE#16
  ∧ vecRev 0xBEEF#16 = 0xF77D#16
  ∧ 0xEFBE#16 &&& vecMask 16 0 = 0x0100#16
  ∧ 0xEFBE#16 &&& vecMask 16 7 = 0x8080#16
  ∧ vecTerm 0xEFBE#16 0 = 0x8000#16
  ∧ vecTerm 0xEFBE#16 7 = 0x0101#16
  ∧ bswap 0xDEADBEEF#32 = 0xEFBEADDE#32
  ∧ vecRev 0xDEADBEEF#32 = 0xF77DB57B#32
  ∧ 0xEFBEADDE#32 &&& vecMask 32 0 = 0x01000100#32
  ∧ 0xEFBEADDE#32 &&& vecMask 32 7 = 0x80808080#32
  ∧ vecTerm 0xEFBEADDE#32 0 = 0x80008000#32
  ∧ vecTerm 0xEFBEADDE#32 7 = 0x01010101#32
  ∧ bswap 0x00000000FFFFFFFF#64 = 0xFFFFFFFF00000000#64
  ∧ vecRev 0x00000000FFFFFFFF#64 = 0xFFFFFFFF00000000#64
  ∧ 0xFFFFFFFF00000000#64 &&& vecMask 64 0 = 0x0101010100000000#64
  ∧ 0xFFFFFFFF00000000#64 &&& vecMask 64 7 = 0x8080808000000000#64
  ∧ vecTerm 0xFFFFFFFF00000000#64 0 = 0x8080808000000000#64
  ∧ vecTerm 0xFFFFFFFF00000000#64 7 = 0x0101010100000000#64
  ∧ bswap 0x000102030405060708090A0B0C0D0E0F#128 = 0x0F0E0D0C0B0A09080706050403020100#128
  ∧ vecRev 0x000102030405060708090A0B0C0D0E0F#128 = 0xF070B030D0509010E060A020C0408000#128
  ∧ 0x0F0E0D0C0B0A09080706050403020100#128 &&& vecMask 128 0 = 0x01000100010001000100010001000100#128
  ∧ 0x0F0E0D0C0B0A09080706050403020100#128 &&& vecMask 128 7 = 0x00000000000000000000000000000000#128
  ∧ vecTerm 0x0F0E0D0C0B0A09080706050403020100#128 0 = 0x80008000800080008000800080008000#128
  ∧ vecTerm 0x0F0E0D0C0B0A09080706050403020100#128 7 = 0x00000000000000000000000000000000#128

/-- The worked examples of R192 to R201, with the entries that they read. -/
def LutIntegerExamples : Prop :=
  bswap 0xF0#8 = 0xF0#8
  ∧ lutRev 0xF0#8 = 0x0F#8
  ∧ bswap 0x00FF#16 = 0xFF00#16
  ∧ lutRev 0x00FF#16 = 0xFF00#16
  ∧ bswap 0x00000001#32 = 0x01000000#32
  ∧ lutRev 0x00000001#32 = 0x80000000#32
  ∧ bswap 0x0123456789ABCDEF#64 = 0xEFCDAB8967452301#64
  ∧ lutRev 0x0123456789ABCDEF#64 = 0xF7B3D591E6A2C480#64
  ∧ bswap 0x0123456789ABCDEFFEDCBA9876543210#128 = 0x1032547698BADCFEEFCDAB8967452301#128
  ∧ lutRev 0x0123456789ABCDEFFEDCBA9876543210#128 = 0x084C2A6E195D3B7FF7B3D591E6A2C480#128
  ∧ bswap 0x80#8 = 0x80#8
  ∧ lutRev 0x80#8 = 0x01#8
  ∧ bswap 0xFFFE#16 = 0xFEFF#16
  ∧ lutRev 0xFFFE#16 = 0x7FFF#16
  ∧ bswap 0xFFFFFFFE#32 = 0xFEFFFFFF#32
  ∧ lutRev 0xFFFFFFFE#32 = 0x7FFFFFFF#32
  ∧ bswap 0x8000000000000000#64 = 0x0000000000000080#64
  ∧ lutRev 0x8000000000000000#64 = 0x0000000000000001#64
  ∧ bswap 0x80000000000000000000000000000000#128 = 0x00000000000000000000000000000080#128
  ∧ lutRev 0x80000000000000000000000000000000#128 = 0x00000000000000000000000000000001#128
  ∧ btab 0xF0 = 0x0F ∧ btab 0x01 = 0x80 ∧ btab 0xEF = 0xF7 ∧ btab 0x10 = 0x08 ∧ btab 0x80 = 0x01
  ∧ btab 0xFE = 0x7F ∧ btab 0x00 = 0x00 ∧ btab 0xFF = 0xFF

/-- The worked examples of R228 to R232 and R238: `acc`, `src` and `cnt`. -/
def CountedExamples : Prop :=
  Nat.iterate itaBody 4 (countedStart 0x01#8)
      = ⟨0x08, 0x00, 4⟩
  ∧ itaFinal 0x01#8 = ⟨0x80, 0, 8⟩
  ∧ Nat.iterate itaBody 4 (countedStart 0x00FF#16)
      = ⟨0x000F, 0x000F, 4⟩
  ∧ itaFinal 0x00FF#16 = ⟨0xFF00, 0, 16⟩
  ∧ Nat.iterate itaBody 4 (countedStart 0x12345678#32)
      = ⟨0x00000001, 0x01234567, 4⟩
  ∧ itaFinal 0x12345678#32 = ⟨0x1E6A2C48, 0, 32⟩
  ∧ Nat.iterate itaBody 4 (countedStart 0x0123456789ABCDEF#64)
      = ⟨0x000000000000000F, 0x00123456789ABCDE, 4⟩
  ∧ itaFinal 0x0123456789ABCDEF#64 = ⟨0xF7B3D591E6A2C480, 0, 64⟩
  ∧ Nat.iterate itaBody 4 (countedStart 0x0123456789ABCDEFFEDCBA9876543210#128)
      = ⟨0x00000000000000000000000000000000, 0x00123456789ABCDEFFEDCBA987654321, 4⟩
  ∧ itaFinal 0x0123456789ABCDEFFEDCBA9876543210#128 = ⟨0x084C2A6E195D3B7FF7B3D591E6A2C480, 0, 128⟩
  ∧ itnFinal 0x00000001#32 = ⟨0x80000000, 0x00000001, 8⟩
  ∧ itnFinal 0x80000000#32 = ⟨0x00000001, 0x80000000, 8⟩
  ∧ itnFinal 0xDEADBEEF#32 = ⟨0xF77DB57B, 0xDEADBEEF, 8⟩
  ∧ ((List.range 8).map fun c => (0xDEADBEEF#32).extractLsb' (4 * c) 4)
      = [0xF, 0xE, 0xE, 0xB, 0xD, 0xA, 0xE, 0xD]
  ∧ ([0xF, 0xE, 0xE, 0xB, 0xD, 0xA, 0xE, 0xD] : List Nibble).map ntab
      = [0xF, 0x7, 0x7, 0xD, 0xB, 0x5, 0x7, 0xB]
  ∧ ntab 0x0 = 0x0 ∧ ntab 0xF = 0xF ∧ ntab 0x8 = 0x1

/-- The worked examples of R233 to R237: L(x), then `acc`, `src` and `off`. -/
def OffsetExamples : Prop :=
  bitLength 0x0F#8 = 4
  ∧ itbFinal 0x0F#8 = ⟨0xF0, 0, 3⟩
  ∧ bitLength 0x0100#16 = 9
  ∧ itbFinal 0x0100#16 = ⟨0x0080, 0, 6⟩
  ∧ bitLength 0x0000FFFF#32 = 16
  ∧ itbFinal 0x0000FFFF#32 = ⟨0xFFFF0000, 0, 15⟩
  ∧ bitLength 0x8000000000000000#64 = 64
  ∧ itbFinal 0x8000000000000000#64 = ⟨0x0000000000000001, 0, 255⟩
  ∧ bitLength 0x0000000000000000FFFFFFFFFFFFFFFF#128 = 64
  ∧ itbFinal 0x0000000000000000FFFFFFFFFFFFFFFF#128 = ⟨0xFFFFFFFFFFFFFFFF0000000000000000, 0, 63⟩

end Sys2Proof.Machine

open Sys2Proof Sys2Proof.Machine

/-! ### The command word -/

/-- 30_encoding.md section 1 (R81): a word is the sum of its fields, each at its place. -/
def Obligations.WordIsTheSumOfItsFields : Prop :=
  ∀ c : CmdWord, c.toNat = (fieldsOf c).zero.toNat * 1024 + (fieldsOf c).strat.toNat * 128
    + (fieldsOf c).var.toNat * 32 + (fieldsOf c).kind.toNat * 8 + (fieldsOf c).wsel.toNat

/-- A few words written out from R88, one per datapath, and two illegal ones from 95_test_vectors.md 8.1. -/
def Obligations.WrittenWordsDecode : Prop :=
  decode 0b0000000010000000 = .instr .bcU8 ∧ decode 0b0000000100000100 = .instr .vecU128
    ∧ decode 0b0000000110010001 = .instr .lutF16 ∧ decode 0b0000001000000011 = .instr .iterAU64
    ∧ decode 0b0000001000100001 = .instr .iterBU16 ∧ decode 0b0000001001000010 = .instr .iterNU32
    ∧ decode 0b0000000000000000 = .illegal .strategy ∧ decode 0b0000000100001010 = .illegal .kindOfStrategy

/-- 30_encoding.md section 4 (R89): the legality test, conjunct by conjunct; it holds exactly for the 44 words
of R88; the width that a legal word selects; a word that fails the test raises IllegalCommand, whichever
conjunct fails. What that changes is 60_exceptions.md section 1 (R271); that a `quiet` move of the host is
used up first is the model's choice (log entry 5). -/
def Obligations.DecodingIsTheLegalityTest : Prop :=
  ∀ c : CmdWord,
    ((∃ i, decode c = .instr i) ↔
      ((fieldsOf c).zero.toNat = 0
        ∧ (fieldsOf c).strat.toNat ∈ [1, 2, 3, 4]
        ∧ (fieldsOf c).wsel.toNat ∈ [0, 1, 2, 3, 4]
        ∧ (fieldsOf c).kind.toNat ∈ [0, 1, 2]
        ∧ ((fieldsOf c).strat.toNat ∈ [1, 2, 3] → (fieldsOf c).var.toNat = 0)
        ∧ ((fieldsOf c).strat.toNat = 4 → (fieldsOf c).var.toNat ∈ [0, 1, 2])
        ∧ ((fieldsOf c).strat.toNat = 4 ∧ (fieldsOf c).var.toNat = 2 → (fieldsOf c).wsel.toNat = 2)
        ∧ ((fieldsOf c).strat.toNat ∈ [2, 4] → (fieldsOf c).kind.toNat = 0)
        ∧ ((fieldsOf c).kind.toNat = 2 → 8 * 2 ^ (fieldsOf c).wsel.toNat ∈ [16, 32, 64, 128])))
    ∧ ((∃ i, decode c = .instr i) ↔ c ∈
        ([0x0080, 0x0081, 0x0082, 0x0083, 0x0084, 0x0088, 0x0089, 0x008A, 0x008B, 0x008C, 0x0091,
          0x0092, 0x0093, 0x0094, 0x0100, 0x0101, 0x0102, 0x0103, 0x0104, 0x0180, 0x0181, 0x0182,
          0x0183, 0x0184, 0x0188, 0x0189, 0x018A, 0x018B, 0x018C, 0x0191, 0x0192, 0x0193, 0x0194,
          0x0200, 0x0201, 0x0202, 0x0203, 0x0204, 0x0220, 0x0221, 0x0222, 0x0223, 0x0224, 0x0242] : List CmdWord))
    ∧ (∀ i, decode c = .instr i → i.form.width.bits = 8 * 2 ^ (fieldsOf c).wsel.toNat)
    ∧ ((¬ ∃ i, decode c = .instr i) →
        (∀ o s, Holds c o s →
          step s = .next { s with phase := .idle, responses := s.responses ++ [⟨0, .illegal⟩] })
        ∧ ∀ s rest, s.phase = .busy → s.cmdQ = c → s.host = .quiet :: rest →
          step s = .next { s with phase := .idle, responses := s.responses ++ [⟨0, .illegal⟩], host := rest })

/-- 30_encoding.md sections 4 and 6: each of the 65,536 words has at most one meaning and each command
exactly one word. -/
def Obligations.DecodeInvertsEncode : Prop :=
  ∀ (c : CmdWord) (i : Instr), decode c = .instr i ↔ encode i = c

/-- R87, R88, R89 for any `FLOAT_WIDTHS`: decoding is the legality test for that set, and the set matters
to the words of kind F alone. That the two F8 words, where the set holds 8, are other names of REV.BC.U8
and REV.LUT.U8 is the model's choice (log entry 1). -/
def Obligations.FloatWidthsOnlyDecideFloatWords : Prop :=
  ∀ (floatWidths : List Nat) (c : CmdWord),
    ((∃ i, decodeWith floatWidths c = .instr i) ↔ legalWith floatWidths c = true)
    ∧ ((fieldsOf c).kind.toNat ≠ 2 → decodeWith floatWidths c = decode c)
    ∧ (8 ∈ floatWidths → decodeWith floatWidths 0x0090 = .instr .bcU8
        ∧ decodeWith floatWidths 0x0190 = .instr .lutU8)

/-- 30_encoding.md section 8 (R93): a mnemonic names one form. -/
def Obligations.MnemonicsReadBack : Prop := ∀ f : Form, readMnemonic (Form.mnemonic f) = some f

/-- 30_encoding.md section 8 (R93): a number written in hexadecimal, most significant digit first, reads
back. -/
def Obligations.HexOperandsReadBack : Prop :=
  ∀ digits n : Nat, n < 16 ^ (digits + 1) → readOperand ('0' :: 'x' :: hexText (digits + 1) n) = some n

/-! ### The reference -/

/-- R113: bit k of `rev_W(x)` is bit W−1−k of x; its text is the text of x reversed; at width 8 it is the
Byte Reverser and at width 4 it gives the nibble table. -/
def Obligations.RevMirrorsBitsAndText : Prop :=
  (∀ (W : Width) (x : BitVec W.bits),
      (∀ k, k < W.bits → (rev x).getLsbD k = x.getLsbD (W.bits - 1 - k))
      ∧ binaryText (rev x) = (binaryText x).reverse)
    ∧ (∀ b : Byte, brev8 b = rev b) ∧ (∀ i : Nibble, ntab i = rev i)

/-- R261: the naive strategy never fails and computes `rev_W`; the example of 240. -/
def Obligations.NaiveEqualsRev : Prop :=
  (∀ (W : Width) (x : BitVec W.bits), naiveRev x = some (rev x))
    ∧ binaryText (240#8) = ['1', '1', '1', '1', '0', '0', '0', '0']
    ∧ (binaryText (240#8)).reverse = ['0', '0', '0', '0', '1', '1', '1', '1']
    ∧ naiveRev (240#8) = some 15#8

/-- R115: `rev_W` is its own inverse, and so is every legal command. -/
def Obligations.RevIsAnInvolution : Prop :=
  (∀ (W : Width) (x : BitVec W.bits), rev (rev x) = x)
    ∧ ∀ (c : CmdWord) (o y : BusWord), legal c = true → Responds c o ⟨y, .ok⟩ →
        Responds c y ⟨(o.setWidth (selectedWidth c)).setWidth 128, .ok⟩

/-- R117: the fixed points, the powers of two, OR and AND, the number of ones, and the palindromes. -/
def Obligations.RevConsequences : Prop :=
  (∀ (W : Width), rev (0#W.bits) = 0 ∧ rev (BitVec.allOnes W.bits) = BitVec.allOnes W.bits
      ∧ (∀ k, k < W.bits → rev (BitVec.twoPow W.bits k) = BitVec.twoPow W.bits (W.bits - 1 - k))
      ∧ ∀ a b : BitVec W.bits, rev (a ||| b) = rev a ||| rev b ∧ rev (a &&& b) = rev a &&& rev b
        ∧ (List.range W.bits).countP (fun k => (rev a).getLsbD k)
            = (List.range W.bits).countP (fun k => a.getLsbD k)
        ∧ (rev a = a ↔ (binaryText a).reverse = binaryText a))
    ∧ rev (0xA5#8) = 0xA5 ∧ rev (0x3C#8) = 0x3C ∧ rev (1#8) = 128 ∧ rev (0#8) = 0 ∧ rev (255#8) = 255

/-! ### Tables and shared primitives -/

/-- R55 over the literal tables of R52 and R53: each entry mirrors its index and each table is its own
inverse; with the sizes of R50. -/
def Obligations.TablesAreSound : Prop :=
  btabEntries.length = 256 ∧ ntabEntries.length = 16
    ∧ (∀ i : Byte, btab i = rev i ∧ btab (btab i) = i)
    ∧ ∀ i : Nibble, ntab i = rev i ∧ ntab (ntab i) = i

/-- 40_common_execution.md section 4 (R119, R120) and R52: the two forms of the Byte Reverser agree, and an
entry of `BTAB` is made of two entries of `NTAB`. -/
def Obligations.ByteReverserFormsAgree : Prop :=
  (∀ b : Byte, brev8 b = btab b) ∧ ∀ r c : Nibble, btab (r ++ c) = ntab c ++ ntab r

/-- R191: at width 8 the lookup strategy is one read of `BTAB` at the operand byte. -/
def Obligations.LutByteIsOneRead : Prop := ∀ x : Byte, lutRev x = btab x ∧ bswap x = x ∧ lane x 0 = x

/-- R121: lane j is lane n−1−j, bits keep their place in the byte, `bswap_8` is the identity, `bswap_W` is
an involution and the same function with the lanes numbered from the other end; the three examples. -/
def Obligations.BswapReversesLanes : Prop :=
  (∀ (W : Width) (x : BitVec W.bits),
      (∀ j, j < W.bits / 8 → lane (bswap x) j = lane x (W.bits / 8 - 1 - j))
      ∧ (∀ j t, j < W.bits / 8 → t < 8 →
          (bswap x).getLsbD (8 * j + t) = x.getLsbD (8 * (W.bits / 8 - 1 - j) + t))
      ∧ bswap (bswap x) = x
      ∧ ∀ y : BitVec W.bits,
          (∀ j, j < W.bits / 8 →
            y.extractLsb' (W.bits - 8 - 8 * j) 8
              = x.extractLsb' (W.bits - 8 - 8 * (W.bits / 8 - 1 - j)) 8) → y = bswap x)
    ∧ (∀ x : Byte, bswap x = x)
    ∧ bswap (0x00FF#16) = 0xFF00 ∧ bswap (0x12345678#32) = 0x78563412
    ∧ bswap (0x0123456789ABCDEF#64) = 0xEFCDAB8967452301

/-- R122: `rev_W` is the byte-sequence reversal followed by the Byte Reverser in every lane, and the two
stages commute. -/
def Obligations.CompositionIdentity : Prop :=
  ∀ (W : Width) (x : BitVec W.bits),
    (∀ j, j < W.bits / 8 → lane (rev x) j = brev8 (lane (bswap x) j))
    ∧ rev x = mapLanes brev8 (bswap x) ∧ rev x = bswap (mapLanes brev8 x)

/-! ### The vectorized strategy and the loops -/

/-- 42_vectorized.md section 1 (R171): any lane count, one lane included, gives the same result, and this
instance has 16. -/
def Obligations.VectorResultIgnoresLaneCount : Prop :=
  Config.lanes = 16
    ∧ ∀ (W : Width) (lanesPerPass : Nat), 0 < lanesPerPass → ∀ v : BitVec W.bits,
        vecPasses lanesPerPass v = vecSteps v ∧ vecRevWith lanesPerPass v = rev v

/-- 42_vectorized.md section 1 (R170): a shift of the whole vector gives the same s_k as the lane-wise shift,
s_k moves bit k of every byte to 7−k, and the eight ORs may be made in any order. -/
def Obligations.VectorTermsDoNotCross : Prop :=
  ∀ (W : Width) (v : BitVec W.bits),
    (∀ k, k < 8 →
      vecTerm v k = (if k ≤ 3 then (v &&& vecMask W.bits k) <<< (7 - 2 * k)
        else (v &&& vecMask W.bits k) >>> (2 * k - 7))
      ∧ ∀ j t, j < W.bits / 8 → t < 8 →
          (vecTerm v k).getLsbD (8 * j + t) = (decide (t = 7 - k) && v.getLsbD (8 * j + k)))
    ∧ ∀ order : List Nat, order.Perm (List.range 8) →
        order.foldl (fun r k => r ||| vecTerm v k) 0 = vecSteps v

/-- R222: the state of shape (a) after i iterations; no set bit is dropped; exactly W iterations for every
operand; the result; and `cnt` = W at the end. -/
def Obligations.ShapeAInvariant : Prop :=
  ∀ (W : Width) (x : BitVec W.bits),
    (∀ i, i ≤ W.bits →
      (Nat.iterate itaBody i (countedStart x)).cnt.toNat = i
      ∧ (Nat.iterate itaBody i (countedStart x)).src = x >>> i
      ∧ (∀ t, t < i → (Nat.iterate itaBody i (countedStart x)).acc.getLsbD t = x.getLsbD (i - 1 - t))
      ∧ ∀ t, i ≤ t → (Nat.iterate itaBody i (countedStart x)).acc.getLsbD t = false)
    ∧ (∀ i, i < W.bits → (Nat.iterate itaBody i (countedStart x)).acc.getLsbD (W.bits - 1) = false)
    ∧ itaFinal x = Nat.iterate itaBody W.bits (countedStart x)
    ∧ (itaFinal x).acc = rev x ∧ (itaFinal x).src = 0 ∧ (itaFinal x).cnt.toNat = W.bits

/-- R225: the state of shape (b) after i iterations; exactly L(x) iterations, at most W; every offset used
is below W; the result; and where `off` ends, 255 when bit W−1 of x is set. -/
def Obligations.ShapeBInvariant : Prop :=
  ∀ (W : Width) (x : BitVec W.bits),
    bitLength x ≤ W.bits
    ∧ (∀ k, bitLength x ≤ k → x.getLsbD k = false)
    ∧ (∀ k, bitLength x = k + 1 → x.getLsbD k = true)
    ∧ (∀ i, i ≤ bitLength x →
      (Nat.iterate itbBody i (offsetStart x)).src = x >>> i
      ∧ (Nat.iterate itbBody i (offsetStart x)).off = BitVec.ofInt 8 ((W.bits : Int) - 1 - (i : Int))
      ∧ (∀ t, t < i →
          (Nat.iterate itbBody i (offsetStart x)).acc.getLsbD (W.bits - 1 - t) = x.getLsbD t)
      ∧ ∀ t, i ≤ t → t < W.bits →
          (Nat.iterate itbBody i (offsetStart x)).acc.getLsbD (W.bits - 1 - t) = false)
    ∧ (∀ i, i < bitLength x → (Nat.iterate itbBody i (offsetStart x)).src ≠ 0
        ∧ (Nat.iterate itbBody i (offsetStart x)).off.toNat = W.bits - 1 - i)
    ∧ itbFinal x = Nat.iterate itbBody (bitLength x) (offsetStart x)
    ∧ (itbFinal x).acc = rev x ∧ (itbFinal x).src = 0
    ∧ (bitLength x = W.bits → (itbFinal x).off = 255)
    ∧ (bitLength x < W.bits → (itbFinal x).off.toNat = W.bits - 1 - bitLength x)

/-- 44_iterative.md section 4 (R226): exactly 8 iterations; iteration c reads nibble c, writes bits 31−4c down
to 28−4c of `acc` and no others, and leaves `src` alone; the result. -/
def Obligations.NibbleVariantPlacesNibbles : Prop :=
  ∀ x : BitVec 32,
    (∀ c, c < 8 →
      (Nat.iterate itnBody c (countedStart x)).cnt.toNat = c
      ∧ (Nat.iterate itnBody c (countedStart x)).src = x
      ∧ itnNibble (Nat.iterate itnBody c (countedStart x)) = x.extractLsb' (4 * c) 4
      ∧ (Nat.iterate itnBody (c + 1) (countedStart x)).acc.extractLsb' (28 - 4 * c) 4
          = rev (x.extractLsb' (4 * c) 4)
      ∧ ∀ k, k < 28 - 4 * c ∨ 31 - 4 * c < k →
          (Nat.iterate itnBody (c + 1) (countedStart x)).acc.getLsbD k
            = (Nat.iterate itnBody c (countedStart x)).acc.getLsbD k)
    ∧ itnFinal x = Nat.iterate itnBody 8 (countedStart x)
    ∧ (itnFinal x).acc = rev x ∧ (itnFinal x).src = x ∧ (itnFinal x).cnt.toNat = 8

/-- R227: the shapes are equivalent, and a host cannot tell from a response which shape ran. -/
def Obligations.IterativeShapesAgree : Prop :=
  (∀ (W : Width) (x : BitVec W.bits), (itaFinal x).acc = (itbFinal x).acc)
    ∧ (∀ x : BitVec 32, (itnFinal x).acc = (itaFinal x).acc)
    ∧ ∀ i j : Instr, i.form.path ∈ [Datapath.iterA, .iterB, .iterN] →
        j.form.path ∈ [Datapath.iterA, .iterB, .iterN] → i.form.width = j.form.width →
        ∀ o r, Responds (encode i) o r → Responds (encode j) o r

/-! ### The commands -/

/-- R141 to R150: the ten integer commands of REV.BC, each with its rule; what the rules add for each width
and for kind S; the result bits of kind S are those of kind U; the worked examples. -/
def Obligations.ByteCompositionIntegerCommands : Prop :=
  CommandRule .bcU8 0x0080 .w8 bcRev (bcRegs 8)
  ∧ CommandRule .bcU16 0x0081 .w16 bcRev (bcRegs 16)
  ∧ CommandRule .bcU32 0x0082 .w32 bcRev (bcRegs 32)
  ∧ CommandRule .bcU64 0x0083 .w64 bcRev (bcRegs 64)
  ∧ CommandRule .bcU128 0x0084 .w128 bcRev (bcRegs 128)
  ∧ CommandRule .bcS8 0x0088 .w8 bcRev (bcRegs 8)
  ∧ CommandRule .bcS16 0x0089 .w16 bcRev (bcRegs 16)
  ∧ CommandRule .bcS32 0x008A .w32 bcRev (bcRegs 32)
  ∧ CommandRule .bcS64 0x008B .w64 bcRev (bcRegs 64)
  ∧ CommandRule .bcS128 0x008C .w128 bcRev (bcRegs 128)
  ∧ (∀ W, LaneRule W bcRev brev8 ∧ SignedRule W bcRev)
  ∧ (∀ x : Byte, bcRev x = brev8 x)
  ∧ (∀ s, exec .bcS8 s = exec .bcU8 s ∧ exec .bcS16 s = exec .bcU16 s
      ∧ exec .bcS32 s = exec .bcU32 s
      ∧ exec .bcS64 s = exec .bcU64 s
      ∧ exec .bcS128 s = exec .bcU128 s)
  ∧ BcIntegerExamples

/-- R151 to R154 and R202 to R205: the eight float commands, each with its rule; the sign bit lands on bit 0;
the result is that of the unsigned command on the same operand, whatever the pattern reads as; the worked
examples. -/
def Obligations.FloatCommands : Prop :=
  CommandRule .bcF16 0x0091 .w16 bcRev (bcRegs 16)
  ∧ CommandRule .bcF32 0x0092 .w32 bcRev (bcRegs 32)
  ∧ CommandRule .bcF64 0x0093 .w64 bcRev (bcRegs 64)
  ∧ CommandRule .bcF128 0x0094 .w128 bcRev (bcRegs 128)
  ∧ CommandRule .lutF16 0x0191 .w16 lutRev (byteReversedRegs 16)
  ∧ CommandRule .lutF32 0x0192 .w32 lutRev (byteReversedRegs 32)
  ∧ CommandRule .lutF64 0x0193 .w64 lutRev (byteReversedRegs 64)
  ∧ CommandRule .lutF128 0x0194 .w128 lutRev (byteReversedRegs 128)
  ∧ (∀ W, LaneRule W bcRev brev8 ∧ LaneRule W lutRev btab)
  ∧ (∀ (W : Width) (x : BitVec W.bits), (bcRev x).getLsbD 0 = x.msb ∧ (lutRev x).getLsbD 0 = x.msb)
  ∧ (∀ s, exec .bcF16 s = exec .bcU16 s ∧ exec .bcF32 s = exec .bcU32 s
      ∧ exec .bcF64 s = exec .bcU64 s
      ∧ exec .bcF128 s = exec .bcU128 s)
  ∧ (∀ s, exec .lutF16 s = exec .lutU16 s ∧ exec .lutF32 s = exec .lutU32 s
      ∧ exec .lutF64 s = exec .lutU64 s
      ∧ exec .lutF128 s = exec .lutU128 s)
  ∧ (∀ i : Byte, btab (btab i) = i) ∧ btab 0xFF = 0xFF
  ∧ FloatExamples

/-- R172 to R176: the five commands of REV.VEC, each with its rule, the corner cases of its terms, the terms at
width 8, the words of kinds S and F that do not exist, and the worked examples. -/
def Obligations.VectorizedCommands : Prop :=
  CommandRule .vecU8 0x0100 .w8 vecRev (byteReversedRegs 8)
  ∧ CommandRule .vecU16 0x0101 .w16 vecRev (byteReversedRegs 16)
  ∧ CommandRule .vecU32 0x0102 .w32 vecRev (byteReversedRegs 32)
  ∧ CommandRule .vecU64 0x0103 .w64 vecRev (byteReversedRegs 64)
  ∧ CommandRule .vecU128 0x0104 .w128 vecRev (byteReversedRegs 128)
  ∧ (∀ W, VectorCorners W)
  ∧ (∀ x : Byte, vecRev x = brev8 x)
  ∧ (∀ x : Byte, vecTerm x 0 = (x &&& 0x01) <<< 7 ∧ vecTerm x 1 = (x &&& 0x02) <<< 5
      ∧ vecTerm x 2 = (x &&& 0x04) <<< 3 ∧ vecTerm x 3 = (x &&& 0x08) <<< 1
      ∧ vecTerm x 4 = (x &&& 0x10) >>> 1 ∧ vecTerm x 5 = (x &&& 0x20) >>> 3
      ∧ vecTerm x 6 = (x &&& 0x40) >>> 5 ∧ vecTerm x 7 = (x &&& 0x80) >>> 7)
  ∧ (∀ c ∈ ([0x0108, 0x0109, 0x010A, 0x010B, 0x010C, 0x0110, 0x0111, 0x0112, 0x0113, 0x0114] : List CmdWord),
      legal c = false)
  ∧ VectorExamples

/-- R192 to R201: the ten integer commands of REV.LUT, each with its rule; what the rules add for each width
and for kind S; the result bits of kind S are those of kind U; the worked examples. -/
def Obligations.LookupTableIntegerCommands : Prop :=
  CommandRule .lutU8 0x0180 .w8 lutRev (byteReversedRegs 8)
  ∧ CommandRule .lutU16 0x0181 .w16 lutRev (byteReversedRegs 16)
  ∧ CommandRule .lutU32 0x0182 .w32 lutRev (byteReversedRegs 32)
  ∧ CommandRule .lutU64 0x0183 .w64 lutRev (byteReversedRegs 64)
  ∧ CommandRule .lutU128 0x0184 .w128 lutRev (byteReversedRegs 128)
  ∧ CommandRule .lutS8 0x0188 .w8 lutRev (byteReversedRegs 8)
  ∧ CommandRule .lutS16 0x0189 .w16 lutRev (byteReversedRegs 16)
  ∧ CommandRule .lutS32 0x018A .w32 lutRev (byteReversedRegs 32)
  ∧ CommandRule .lutS64 0x018B .w64 lutRev (byteReversedRegs 64)
  ∧ CommandRule .lutS128 0x018C .w128 lutRev (byteReversedRegs 128)
  ∧ (∀ W, LaneRule W lutRev btab ∧ SignedRule W lutRev)
  ∧ (∀ x : Byte, lutRev x = btab x)
  ∧ (∀ i : Byte, btab (btab i) = i)
  ∧ (∀ s, exec .lutS8 s = exec .lutU8 s ∧ exec .lutS16 s = exec .lutU16 s
      ∧ exec .lutS32 s = exec .lutU32 s
      ∧ exec .lutS64 s = exec .lutU64 s
      ∧ exec .lutS128 s = exec .lutU128 s)
  ∧ LutIntegerExamples

/-- R228 to R232 and R238: the five commands of REV.ITER.A and the one of REV.ITER.N, each with its rule; the
iteration counts, the bit that `acc << 1` drops, and where bit W−1 ends; the words that do not exist; the
worked examples. -/
def Obligations.CountedIterativeCommands : Prop :=
  CommandRule .iterAU8 0x0200 .w8 (fun x => (itaFinal x).acc) (iterARegs 8)
  ∧ CommandRule .iterAU16 0x0201 .w16 (fun x => (itaFinal x).acc) (iterARegs 16)
  ∧ CommandRule .iterAU32 0x0202 .w32 (fun x => (itaFinal x).acc) (iterARegs 32)
  ∧ CommandRule .iterAU64 0x0203 .w64 (fun x => (itaFinal x).acc) (iterARegs 64)
  ∧ CommandRule .iterAU128 0x0204 .w128 (fun x => (itaFinal x).acc) (iterARegs 128)
  ∧ CommandRule .iterNU32 0x0242 .w32 (fun x => (itnFinal x).acc) (iterNRegs 32)
  ∧ (∀ (W : Width) (x : BitVec W.bits), itaFinal x = Nat.iterate itaBody W.bits (countedStart x)
      ∧ (∀ i, i < W.bits → (Nat.iterate itaBody i (countedStart x)).acc.msb = false)
      ∧ (itaFinal x).acc.getLsbD 0 = x.msb)
  ∧ (∀ x : BitVec 32, itnFinal x = Nat.iterate itnBody 8 (countedStart x))
  ∧ (∀ i : Nibble, ntab (ntab i) = i)
  ∧ (∀ c ∈ ([0x0208, 0x0209, 0x020A, 0x020B, 0x020C, 0x0210, 0x0211, 0x0212, 0x0213, 0x0214,
        0x0240, 0x0241, 0x0243, 0x0244, 0x024A, 0x0252] : List CmdWord), legal c = false)
  ∧ CountedExamples

/-- R233 to R237: the five commands of REV.ITER.B, each with its rule, the corner cases of its iteration count
and of `off`, the words of kinds S and F that do not exist, and the worked examples. -/
def Obligations.OffsetIterativeCommands : Prop :=
  CommandRule .iterBU8 0x0220 .w8 (fun x => (itbFinal x).acc) (iterBRegs 8)
  ∧ CommandRule .iterBU16 0x0221 .w16 (fun x => (itbFinal x).acc) (iterBRegs 16)
  ∧ CommandRule .iterBU32 0x0222 .w32 (fun x => (itbFinal x).acc) (iterBRegs 32)
  ∧ CommandRule .iterBU64 0x0223 .w64 (fun x => (itbFinal x).acc) (iterBRegs 64)
  ∧ CommandRule .iterBU128 0x0224 .w128 (fun x => (itbFinal x).acc) (iterBRegs 128)
  ∧ (∀ W, OffsetCorners W)
  ∧ (∀ c ∈ ([0x0228, 0x0229, 0x022A, 0x022B, 0x022C, 0x0230, 0x0231, 0x0232, 0x0233, 0x0234] : List CmdWord),
      legal c = false)
  ∧ OffsetExamples

/-- R114: the response to every command is that of the master rule, in every state that holds it. -/
def Obligations.MasterRule : Prop :=
  ∀ (c : CmdWord) (o : BusWord),
    (legal c = false → Responds c o ⟨0, .illegal⟩)
    ∧ (legal c = true →
        Responds c o ⟨(rev (o.setWidth (selectedWidth c))).setWidth 128, .ok⟩)

/-- 00_scope.md section 4 (R6), 30_encoding.md sections 3 and 4 (R87, R89) and 40_common_execution.md section 2
(R114): `FLOAT_WIDTHS` is an argument of the engine. With any set, the held command is answered as the
master rule for that set says; the set matters only to an engine that holds a word of kind F; and the
machine of the host is the engine with the default set. Where the set holds 8 the two F8 words run as
REV.BC.U8 and REV.LUT.U8, the model's choice (log entry 1). -/
def Obligations.EngineForAnyFloatWidths : Prop :=
  Sys2Proof.core = coreWith Config.floatWidths
    ∧ ∀ floatWidths : List Nat,
        (∀ c o s, Holds c o s →
          ∃ t, s.turn floatWidths = .next t ∧ Answered (masterRuleWith floatWidths c o) s t)
        ∧ ∀ s : State, s.phase = .idle ∨ (fieldsOf s.cmdQ).kind.toNat ≠ 2 → s.turn floatWidths = step s

/-- R116: any two legal words with the same `WSEL` answer every operand alike, and the four datapaths and the
naive strategy are one function. -/
def Obligations.CrossStrategyEquivalence : Prop :=
  (∀ (W : Width) (x : BitVec W.bits), bcRev x = vecRev x ∧ vecRev x = lutRev x
      ∧ lutRev x = (itaFinal x).acc ∧ (itaFinal x).acc = (itbFinal x).acc
      ∧ some ((itbFinal x).acc) = naiveRev x)
    ∧ ∀ c c' : CmdWord, legal c = true → legal c' = true → (fieldsOf c).wsel = (fieldsOf c').wsel →
        ∀ o r, Responds c o r → Responds c' o r

/-- 40_common_execution.md section 2 (R123): commands that differ in kind alone do the same to every state;
the examples of R123. -/
def Obligations.KindIndependence : Prop :=
  (∀ i j : Instr, i.form.path = j.form.path → i.form.width = j.form.width → ∀ s, exec i s = exec j s)
    ∧ bcRev (0x80#8) = 0x01 ∧ bcRev (0x7FC00000#32) = 0x000003FE#32

/-- R35: `opnd[127:W]` changes neither result nor status, and `res[127:W]` is zero for every kind. -/
def Obligations.OperandAboveWidthIsIgnored : Prop :=
  ∀ c : CmdWord, legal c = true →
    (∀ o o' : BusWord, o.setWidth (selectedWidth c) = o'.setWidth (selectedWidth c) →
      ∀ r, Responds c o r → Responds c o' r)
    ∧ ∀ o r, Responds c o r → r.status = .ok ∧ ∀ k, selectedWidth c ≤ k → r.res.getLsbD k = false

/-! ### The engine -/

/-- 60_exceptions.md section 1 (R271): an illegal word is answered with `res` = 0 and status ILLEGAL, whatever
the operand, and nothing else changes. That a `quiet` move of the host is used up first is the model's
own (log entry 5). -/
def Obligations.IllegalCommandOnlyAnswers : Prop :=
  ∀ c : CmdWord, legal c = false →
    (∀ o s, Holds c o s →
      step s = .next { s with phase := .idle, responses := s.responses ++ [⟨0, .illegal⟩] })
    ∧ ∀ (s : State) (rest : List HostMove), s.phase = .busy → s.cmdQ = c → s.host = .quiet :: rest →
      step s = .next { s with phase := .idle, responses := s.responses ++ [⟨0, .illegal⟩], host := rest }

/-- 10_state.md section 10 (R34) and 60_exceptions.md section 1 (R274): the codes of the two statuses; `0b10`
and `0b11` are never produced. -/
def Obligations.StatusCodes : Prop :=
  Status.ok.code = 0b00 ∧ Status.illegal.code = 0b01
    ∧ ∀ st : Status, st.code ≠ 0b10 ∧ st.code ≠ 0b11

/-- 40_common_execution.md section 1 (R112, R126): where the held word decodes to a command and the host lets
the engine move, the step is the command's execution at that state. The clause on the `quiet` move, which
is used up first, is the model's choice of a list of host moves (log entry 5); no rule states it. -/
def Obligations.StepRunsTheDecodedCommand : Prop :=
  ∀ (s : State) (i : Instr), s.phase = .busy → decode s.cmdQ = .instr i →
    (EngineToMove s → step s = exec i s)
    ∧ ∀ rest, s.host = .quiet :: rest → step s = exec i { s with host := rest }

/-- The model's own (log entry 6): a word placed where the engine takes its next command from runs at the
very next step, on the operand that the latch holds. -/
def Obligations.PlacedWordRunsNext : Prop :=
  ∀ (s : State) (i : Instr), (∀ rest, s.host ≠ .quiet :: rest) →
    step (s.withFetchWord 16 (encode i).toNat) = exec i { s with cmdQ := encode i, phase := .busy }

/-- 40_common_execution.md section 1 (R111): accepting latches the word and the operand and makes the engine
BUSY; nothing else changes but that the command is no longer presented. -/
def Obligations.AcceptLatchesTheCommand : Prop :=
  ∀ (s : State) (c : CmdWord) (o : BusWord) (rest : List HostMove),
    s.phase = .idle → s.host = .present c o :: rest →
    step s = .next { s with cmdQ := c, opndQ := o, phase := .busy, host := rest }

/-- 70_reset_and_hazards.md section 3 (R311) and 10_state.md section 10 (R33): a command presented to a BUSY
engine waits, is not lost and does not touch the latches, while the held command is answered as the master rule
says (R114), from its own word and operand. -/
def Obligations.BusyCommandWaits : Prop :=
  ∀ (s : State) (c : CmdWord) (o : BusWord) (rest : List HostMove),
    s.phase = .busy → s.host = .present c o :: rest →
    ∃ t, step s = .next t ∧ Answered (masterRule s.cmdQ s.opndQ) s t ∧ t.host = .present c o :: rest

/-- 70_reset_and_hazards.md section 1 (R300, R302): a reset leaves the engine IDLE with an empty response
channel; the command in flight is answered neither OK nor ILLEGAL and leaves nothing behind; what the
host goes on to do is untouched. -/
def Obligations.ResetDropsTheCommandInFlight : Prop :=
  ∀ (s : State) (rest : List HostMove), s.host = .reset :: rest →
    ∃ t, step s = .next t ∧ t.phase = .idle ∧ t.responses = [] ∧ t.host = rest
      ∧ Indistinguishable { s with phase := .idle, responses := [], host := rest } t

/-- 60_exceptions.md section 11 (R285) and 10_state.md section 10 (R34): the host takes the oldest response,
and nothing else changes. That taking from an empty channel does nothing is the model's choice (log
entry 5); the spec is silent on it. -/
def Obligations.HostTakesTheOldestResponse : Prop :=
  ∀ (s : State) (rest : List HostMove), s.host = .take :: rest →
    ∃ t, step s = .next t ∧ (∀ r rs, s.responses = r :: rs → t.responses = rs)
      ∧ (s.responses = [] → t.responses = []) ∧ t.phase = s.phase ∧ t.cmdQ = s.cmdQ ∧ t.opndQ = s.opndQ
      ∧ SameLanes s t ∧ SameBarrel s t ∧ t.host = rest

/-- 10_state.md section 6 (R25) and 60_exceptions.md section 9 (R284): an idle engine that is offered nothing
waits. -/
def Obligations.IdleEngineWaits : Prop :=
  ∀ s : State, s.phase = .idle → s.host = [] → step s = .next s

/-- 60_exceptions.md sections 1 and 4 (R273, R277): no condition stops the engine. -/
def Obligations.EveryStepGoesOn : Prop := ∀ s : State, ∃ t, step s = .next t

/-- 10_state.md section 9 (R31) and section 1 (R20): two states that differ only in what is hidden stay so,
step by step, and so give the same responses. -/
def Obligations.HiddenStateIsUnobservable : Prop :=
  ∀ s s' : State, Indistinguishable s s' →
    ∃ t t', step s = .next t ∧ step s' = .next t' ∧ Indistinguishable t t'

/-- 40_common_execution.md sections 1 and 2 (R112, R114), 10_state.md section 10 (R34) and
70_reset_and_hazards.md section 1 (R300): where a step can leave the response channel. An idle engine adds
nothing; the host takes the oldest response; a reset empties the channel; and the one response that a step
can add is that of the command held. Taking as a step of its own is the model's (log entry 5). -/
def Obligations.ResponsesComeFromTheHeldCommand : Prop :=
  ∀ s t : State, step s = .next t →
    (s.phase = .idle ∧ t.responses = s.responses)
    ∨ (∃ rest, s.host = .take :: rest ∧ t.responses = s.responses.tail)
    ∨ (∃ rest, s.host = .reset :: rest ∧ t.responses = [])
    ∨ (s.phase = .busy ∧ t.responses = s.responses ++ [masterRule s.cmdQ s.opndQ])

/-- 40_common_execution.md sections 1 and 2 (R111, R112, R114) and 10_state.md section 10 (R34): exactly one
response per accepted command, the one that the master rule gives to its own word and operand, in the order
of acceptance; every step keeps that, with the log of accepted commands brought up to date. The moves of
the host are log entry 5. -/
def Obligations.EveryStepKeepsTheAccount : Prop :=
  ∀ (log : List (CmdWord × BusWord)) (s t : State),
    Accounted log s → step s = .next t → Accounted (accountStep s log) t

/-- 10_state.md section 11 (R32): the invariant of `EveryStepKeepsTheAccount` holds right after reset for the
empty log, and for no other: no command is held and no response is pending. -/
def Obligations.ResetAccountsForNothing : Prop :=
  ∀ log : List (CmdWord × BusWord), Accounted log State.reset ↔ log = []

/-- 10_state.md section 11 (R32): right after reset the engine is IDLE and no response is pending. -/
def Obligations.ResetLeavesTheEngineIdle : Prop :=
  State.reset.phase = .idle ∧ State.reset.responses = []

/-- 40_common_execution.md section 1 (R125, R112) and 10_state.md section 10 (R34): commands presented one after
another to an idle engine are answered one for one, in the order of acceptance, each from its own word and
operand alone, and the engine ends IDLE. That a command takes two steps, and that the host's moves are a
list, is the model's choice (log entries 10 and 5). -/
def Obligations.PresentedCommandsAreAnsweredInOrder : Prop :=
  ∀ (commands : List (CmdWord × BusWord)) (s : State), s.phase = .idle → s.host = presented commands →
    ∃ t : State, Host.Core.run Sys2Proof.core (2 * commands.length) s = .next t
      ∧ t.phase = .idle ∧ t.host = []
      ∧ t.responses = s.responses ++ commands.map fun p => masterRule p.1 p.2
end

