-- ==== Sys2Proof/Laws/Bits.lean ====
section
/-! SUPPORT. What each bit-vector operation does, bit by bit and lane by lane: one lemma each, cited instead
of unfolding the operation. -/

namespace Sys2Proof.Machine

open Sys2Proof

theorem ofBits_getLsbD (n : Nat) (f : Nat → Bool) (i : Nat) :
    (ofBits n f).getLsbD i = (decide (i < n) && f i) := by
  induction n with
  | zero => simp [ofBits]
  | succ n ih =>
    rw [ofBits, BitVec.getLsbD_cons, ih]
    by_cases h : i = n
    · simp [h]
    · have : (i < n + 1) = (i < n) := by simp; omega
      simp [h, this]

/-- `rev_W` bit by bit, with 0 above bit W−1 (R113). -/
theorem rev_getLsbD {w : Nat} (x : BitVec w) (i : Nat) :
    (rev x).getLsbD i = (decide (i < w) && x.getLsbD (w - 1 - i)) :=
  ofBits_getLsbD w _ i

theorem lane_getLsbD {w : Nat} (v : BitVec w) (j t : Nat) :
    (lane v j).getLsbD t = (decide (t < 8) && v.getLsbD (8 * j + t)) := by
  simp [lane, BitVec.getLsbD_extractLsb']

theorem joinLanes_getLsbD (w : Nat) (d : Nat → Byte) (n i : Nat) (h : 8 * n ≤ w) :
    (joinLanes w d n).getLsbD i = (decide (i < 8 * n) && (d (i / 8)).getLsbD (i % 8)) := by
  induction n with
  | zero => simp [joinLanes]
  | succ n ih =>
    rw [joinLanes, BitVec.getLsbD_or, ih (by omega)]
    simp only [BitVec.getLsbD_shiftLeft, BitVec.getLsbD_setWidth]
    by_cases h1 : i < 8 * n
    · have h2 : i < 8 * (n + 1) := by omega
      simp [h1, h2]
    · by_cases h2 : i < 8 * (n + 1)
      · have e1 : i / 8 = n := by omega
        have e2 : i % 8 = i - 8 * n := by omega
        have e3 : i < w := by omega
        have e4 : i - 8 * n < w := by omega
        simp [h1, h2, e1, e2, e3, e4]
      · have : (d n).getLsbD (i - 8 * n) = false := BitVec.getLsbD_of_ge _ _ (by omega)
        simp [h1, h2, this]

/-- Bit 8j+t of `lanes d` is bit t of `d j` (R8). -/
theorem lanes_getLsbD {w : Nat} (hw : 8 ∣ w) (d : Nat → Byte) (i : Nat) :
    (lanes w d).getLsbD i = (decide (i < w) && (d (i / 8)).getLsbD (i % 8)) := by
  have e : 8 * byteCount w = w := by unfold byteCount; omega
  rw [lanes, joinLanes_getLsbD _ _ _ _ (by omega), e]

theorem lane_lanes {w : Nat} (hw : 8 ∣ w) (d : Nat → Byte) (j : Nat) (hj : j < byteCount w) :
    lane (lanes w d) j = d j := by
  apply BitVec.eq_of_getLsbD_eq
  intro t ht
  have e : 8 * byteCount w = w := by unfold byteCount; omega
  rw [lane_getLsbD, lanes_getLsbD hw]
  have e1 : (8 * j + t) / 8 = j := by omega
  have e2 : (8 * j + t) % 8 = t := by omega
  have e3 : 8 * j + t < w := by omega
  simp [ht, e1, e2, e3]

theorem mapLanes_getLsbD {w : Nat} (hw : 8 ∣ w) (f : Byte → Byte) (v : BitVec w) (i : Nat) :
    (mapLanes f v).getLsbD i = (decide (i < w) && (f (lane v (i / 8))).getLsbD (i % 8)) :=
  lanes_getLsbD hw _ i

theorem bcast_getLsbD {w : Nat} (hw : 8 ∣ w) (b : Byte) (i : Nat) :
    (bcast w b).getLsbD i = (decide (i < w) && b.getLsbD (i % 8)) :=
  lanes_getLsbD hw _ i

/-- `bswap_W` in bits (R121). -/
theorem bswap_getLsbD {w : Nat} (hw : 8 ∣ w) (x : BitVec w) (i : Nat) :
    (bswap x).getLsbD i = (decide (i < w) && x.getLsbD (8 * (byteCount w - 1 - i / 8) + i % 8)) := by
  rw [bswap, lanes_getLsbD hw, lane_getLsbD]
  have : i % 8 < 8 := Nat.mod_lt _ (by decide)
  simp [this]

theorem lowestBit_getLsbD {w : Nat} (v : BitVec w) (i : Nat) :
    (lowestBit v).getLsbD i = (decide (i < w) && decide (i = 0) && v.getLsbD 0) := by
  rw [lowestBit, BitVec.getLsbD_setWidth, BitVec.getLsbD_extractLsb']
  by_cases h : i = 0
  · subst h; simp
  · have : ¬ i < 1 := by omega
    simp [h, this]

theorem onBus_getLsbD {w : Nat} (y : BitVec w) (h : w ≤ 128) (i : Nat) :
    (onBus y).getLsbD i = y.getLsbD i := by
  rw [onBus, BitVec.getLsbD_setWidth]
  by_cases hi : i < 128
  · simp [hi]
  · simp [hi, BitVec.getLsbD_of_ge y i (by omega)]

/-- The bits that a W-bit command uses hold what it wrote, whatever stands above them. -/
@[simp] theorem inRegister_setWidth {w : Nat} (y : BitVec w) (above : BusWord) (h : w ≤ 128) :
    (inRegister y above).setWidth w = y := by
  apply BitVec.eq_of_getLsbD_eq
  intro i hi
  have h2 : i < 128 := by omega
  simp [inRegister, hi, h2]

@[simp] theorem onBus_setWidth {w : Nat} (y : BitVec w) (h : w ≤ 128) : (onBus y).setWidth w = y := by
  apply BitVec.eq_of_getLsbD_eq
  intro i hi
  rw [BitVec.getLsbD_setWidth, onBus_getLsbD y h]
  simp [hi]

end Sys2Proof.Machine
end

