-- ==== Sys2Proof/Laws/State.lean ====
section
/-! SUPPORT. What each update of the state does to each field: one lemma per field per update, true by rfl. -/

namespace Sys2Proof.Machine

open Sys2Proof

variable (s : State)

@[simp] theorem State.accept_phase (c : CmdWord) (o : BusWord) : (s.accept c o).phase = .busy := rfl
@[simp] theorem State.accept_cmdQ (c : CmdWord) (o : BusWord) : (s.accept c o).cmdQ = c := rfl
@[simp] theorem State.accept_opndQ (c : CmdWord) (o : BusWord) : (s.accept c o).opndQ = o := rfl
@[simp] theorem State.accept_vy (c : CmdWord) (o : BusWord) : (s.accept c o).vy = s.vy := rfl
@[simp] theorem State.accept_acc (c : CmdWord) (o : BusWord) : (s.accept c o).acc = s.acc := rfl
@[simp] theorem State.accept_src (c : CmdWord) (o : BusWord) : (s.accept c o).src = s.src := rfl
@[simp] theorem State.accept_off (c : CmdWord) (o : BusWord) : (s.accept c o).off = s.off := rfl
@[simp] theorem State.accept_cnt (c : CmdWord) (o : BusWord) : (s.accept c o).cnt = s.cnt := rfl
@[simp] theorem State.accept_responses (c : CmdWord) (o : BusWord) : (s.accept c o).responses = s.responses := rfl
@[simp] theorem State.accept_host (c : CmdWord) (o : BusWord) : (s.accept c o).host = s.host := rfl
@[simp] theorem State.accept_drawn (c : CmdWord) (o : BusWord) : (s.accept c o).drawn = s.drawn := rfl

@[simp] theorem State.respond_phase (r : Response) : (s.respond r).phase = .idle := rfl
@[simp] theorem State.respond_cmdQ (r : Response) : (s.respond r).cmdQ = s.cmdQ := rfl
@[simp] theorem State.respond_opndQ (r : Response) : (s.respond r).opndQ = s.opndQ := rfl
@[simp] theorem State.respond_vy (r : Response) : (s.respond r).vy = s.vy := rfl
@[simp] theorem State.respond_acc (r : Response) : (s.respond r).acc = s.acc := rfl
@[simp] theorem State.respond_src (r : Response) : (s.respond r).src = s.src := rfl
@[simp] theorem State.respond_off (r : Response) : (s.respond r).off = s.off := rfl
@[simp] theorem State.respond_cnt (r : Response) : (s.respond r).cnt = s.cnt := rfl
@[simp] theorem State.respond_responses (r : Response) : (s.respond r).responses = s.responses ++ [r] := rfl
@[simp] theorem State.respond_host (r : Response) : (s.respond r).host = s.host := rfl
@[simp] theorem State.respond_drawn (r : Response) : (s.respond r).drawn = s.drawn := rfl

@[simp] theorem State.respondOk_phase {w : Nat} (y : BitVec w) : (s.respondOk y).phase = .idle := rfl
@[simp] theorem State.respondOk_cmdQ {w : Nat} (y : BitVec w) : (s.respondOk y).cmdQ = s.cmdQ := rfl
@[simp] theorem State.respondOk_opndQ {w : Nat} (y : BitVec w) : (s.respondOk y).opndQ = s.opndQ := rfl
@[simp] theorem State.respondOk_vy {w : Nat} (y : BitVec w) : (s.respondOk y).vy = s.vy := rfl
@[simp] theorem State.respondOk_acc {w : Nat} (y : BitVec w) : (s.respondOk y).acc = s.acc := rfl
@[simp] theorem State.respondOk_src {w : Nat} (y : BitVec w) : (s.respondOk y).src = s.src := rfl
@[simp] theorem State.respondOk_off {w : Nat} (y : BitVec w) : (s.respondOk y).off = s.off := rfl
@[simp] theorem State.respondOk_cnt {w : Nat} (y : BitVec w) : (s.respondOk y).cnt = s.cnt := rfl
@[simp] theorem State.respondOk_responses {w : Nat} (y : BitVec w) : (s.respondOk y).responses = s.responses ++ [⟨onBus y, .ok⟩] := rfl
@[simp] theorem State.respondOk_host {w : Nat} (y : BitVec w) : (s.respondOk y).host = s.host := rfl
@[simp] theorem State.respondOk_drawn {w : Nat} (y : BitVec w) : (s.respondOk y).drawn = s.drawn := rfl

@[simp] theorem State.takeIllegalCommand_phase : (s.takeIllegalCommand).phase = .idle := rfl
@[simp] theorem State.takeIllegalCommand_cmdQ : (s.takeIllegalCommand).cmdQ = s.cmdQ := rfl
@[simp] theorem State.takeIllegalCommand_opndQ : (s.takeIllegalCommand).opndQ = s.opndQ := rfl
@[simp] theorem State.takeIllegalCommand_vy : (s.takeIllegalCommand).vy = s.vy := rfl
@[simp] theorem State.takeIllegalCommand_acc : (s.takeIllegalCommand).acc = s.acc := rfl
@[simp] theorem State.takeIllegalCommand_src : (s.takeIllegalCommand).src = s.src := rfl
@[simp] theorem State.takeIllegalCommand_off : (s.takeIllegalCommand).off = s.off := rfl
@[simp] theorem State.takeIllegalCommand_cnt : (s.takeIllegalCommand).cnt = s.cnt := rfl
@[simp] theorem State.takeIllegalCommand_responses : (s.takeIllegalCommand).responses = s.responses ++ [⟨0, .illegal⟩] := rfl
@[simp] theorem State.takeIllegalCommand_host : (s.takeIllegalCommand).host = s.host := rfl
@[simp] theorem State.takeIllegalCommand_drawn : (s.takeIllegalCommand).drawn = s.drawn := rfl

@[simp] theorem State.takeResponse_phase : (s.takeResponse).phase = s.phase := rfl
@[simp] theorem State.takeResponse_cmdQ : (s.takeResponse).cmdQ = s.cmdQ := rfl
@[simp] theorem State.takeResponse_opndQ : (s.takeResponse).opndQ = s.opndQ := rfl
@[simp] theorem State.takeResponse_vy : (s.takeResponse).vy = s.vy := rfl
@[simp] theorem State.takeResponse_acc : (s.takeResponse).acc = s.acc := rfl
@[simp] theorem State.takeResponse_src : (s.takeResponse).src = s.src := rfl
@[simp] theorem State.takeResponse_off : (s.takeResponse).off = s.off := rfl
@[simp] theorem State.takeResponse_cnt : (s.takeResponse).cnt = s.cnt := rfl
@[simp] theorem State.takeResponse_responses : (s.takeResponse).responses = s.responses.tail := rfl
@[simp] theorem State.takeResponse_host : (s.takeResponse).host = s.host := rfl
@[simp] theorem State.takeResponse_drawn : (s.takeResponse).drawn = s.drawn := rfl

@[simp] theorem State.resetEvent_phase : (s.resetEvent).phase = .idle := rfl
@[simp] theorem State.resetEvent_cmdQ : (s.resetEvent).cmdQ = (Config.freeBits s.drawn).setWidth 16 := rfl
@[simp] theorem State.resetEvent_opndQ : (s.resetEvent).opndQ = Config.freeBits (s.drawn + 1) := rfl
@[simp] theorem State.resetEvent_vy : (s.resetEvent).vy = Config.freeBits (s.drawn + 2) := rfl
@[simp] theorem State.resetEvent_acc : (s.resetEvent).acc = Config.freeBits (s.drawn + 3) := rfl
@[simp] theorem State.resetEvent_src : (s.resetEvent).src = Config.freeBits (s.drawn + 4) := rfl
@[simp] theorem State.resetEvent_off : (s.resetEvent).off = (Config.freeBits (s.drawn + 5)).setWidth 8 := rfl
@[simp] theorem State.resetEvent_cnt : (s.resetEvent).cnt = (Config.freeBits (s.drawn + 6)).setWidth 8 := rfl
@[simp] theorem State.resetEvent_responses : (s.resetEvent).responses = [] := rfl
@[simp] theorem State.resetEvent_host : (s.resetEvent).host = s.host := rfl
@[simp] theorem State.resetEvent_drawn : (s.resetEvent).drawn = s.drawn + 7 := rfl

@[simp] theorem State.setVy_phase {w : Nat} (y : BitVec w) : (s.setVy y).phase = s.phase := rfl
@[simp] theorem State.setVy_cmdQ {w : Nat} (y : BitVec w) : (s.setVy y).cmdQ = s.cmdQ := rfl
@[simp] theorem State.setVy_opndQ {w : Nat} (y : BitVec w) : (s.setVy y).opndQ = s.opndQ := rfl
@[simp] theorem State.setVy_vy {w : Nat} (y : BitVec w) : (s.setVy y).vy = inRegister y (Config.freeBits s.drawn) := rfl
@[simp] theorem State.setVy_acc {w : Nat} (y : BitVec w) : (s.setVy y).acc = s.acc := rfl
@[simp] theorem State.setVy_src {w : Nat} (y : BitVec w) : (s.setVy y).src = s.src := rfl
@[simp] theorem State.setVy_off {w : Nat} (y : BitVec w) : (s.setVy y).off = s.off := rfl
@[simp] theorem State.setVy_cnt {w : Nat} (y : BitVec w) : (s.setVy y).cnt = s.cnt := rfl
@[simp] theorem State.setVy_responses {w : Nat} (y : BitVec w) : (s.setVy y).responses = s.responses := rfl
@[simp] theorem State.setVy_host {w : Nat} (y : BitVec w) : (s.setVy y).host = s.host := rfl
@[simp] theorem State.setVy_drawn {w : Nat} (y : BitVec w) : (s.setVy y).drawn = s.drawn + 1 := rfl

@[simp] theorem State.setAcc_phase {w : Nat} (y : BitVec w) : (s.setAcc y).phase = s.phase := rfl
@[simp] theorem State.setAcc_cmdQ {w : Nat} (y : BitVec w) : (s.setAcc y).cmdQ = s.cmdQ := rfl
@[simp] theorem State.setAcc_opndQ {w : Nat} (y : BitVec w) : (s.setAcc y).opndQ = s.opndQ := rfl
@[simp] theorem State.setAcc_vy {w : Nat} (y : BitVec w) : (s.setAcc y).vy = s.vy := rfl
@[simp] theorem State.setAcc_acc {w : Nat} (y : BitVec w) : (s.setAcc y).acc = inRegister y (Config.freeBits s.drawn) := rfl
@[simp] theorem State.setAcc_src {w : Nat} (y : BitVec w) : (s.setAcc y).src = s.src := rfl
@[simp] theorem State.setAcc_off {w : Nat} (y : BitVec w) : (s.setAcc y).off = s.off := rfl
@[simp] theorem State.setAcc_cnt {w : Nat} (y : BitVec w) : (s.setAcc y).cnt = s.cnt := rfl
@[simp] theorem State.setAcc_responses {w : Nat} (y : BitVec w) : (s.setAcc y).responses = s.responses := rfl
@[simp] theorem State.setAcc_host {w : Nat} (y : BitVec w) : (s.setAcc y).host = s.host := rfl
@[simp] theorem State.setAcc_drawn {w : Nat} (y : BitVec w) : (s.setAcc y).drawn = s.drawn + 1 := rfl

@[simp] theorem State.setSrc_phase {w : Nat} (y : BitVec w) : (s.setSrc y).phase = s.phase := rfl
@[simp] theorem State.setSrc_cmdQ {w : Nat} (y : BitVec w) : (s.setSrc y).cmdQ = s.cmdQ := rfl
@[simp] theorem State.setSrc_opndQ {w : Nat} (y : BitVec w) : (s.setSrc y).opndQ = s.opndQ := rfl
@[simp] theorem State.setSrc_vy {w : Nat} (y : BitVec w) : (s.setSrc y).vy = s.vy := rfl
@[simp] theorem State.setSrc_acc {w : Nat} (y : BitVec w) : (s.setSrc y).acc = s.acc := rfl
@[simp] theorem State.setSrc_src {w : Nat} (y : BitVec w) : (s.setSrc y).src = inRegister y (Config.freeBits s.drawn) := rfl
@[simp] theorem State.setSrc_off {w : Nat} (y : BitVec w) : (s.setSrc y).off = s.off := rfl
@[simp] theorem State.setSrc_cnt {w : Nat} (y : BitVec w) : (s.setSrc y).cnt = s.cnt := rfl
@[simp] theorem State.setSrc_responses {w : Nat} (y : BitVec w) : (s.setSrc y).responses = s.responses := rfl
@[simp] theorem State.setSrc_host {w : Nat} (y : BitVec w) : (s.setSrc y).host = s.host := rfl
@[simp] theorem State.setSrc_drawn {w : Nat} (y : BitVec w) : (s.setSrc y).drawn = s.drawn + 1 := rfl

@[simp] theorem State.setOff_phase (v : Counter) : (s.setOff v).phase = s.phase := rfl
@[simp] theorem State.setOff_cmdQ (v : Counter) : (s.setOff v).cmdQ = s.cmdQ := rfl
@[simp] theorem State.setOff_opndQ (v : Counter) : (s.setOff v).opndQ = s.opndQ := rfl
@[simp] theorem State.setOff_vy (v : Counter) : (s.setOff v).vy = s.vy := rfl
@[simp] theorem State.setOff_acc (v : Counter) : (s.setOff v).acc = s.acc := rfl
@[simp] theorem State.setOff_src (v : Counter) : (s.setOff v).src = s.src := rfl
@[simp] theorem State.setOff_off (v : Counter) : (s.setOff v).off = v := rfl
@[simp] theorem State.setOff_cnt (v : Counter) : (s.setOff v).cnt = s.cnt := rfl
@[simp] theorem State.setOff_responses (v : Counter) : (s.setOff v).responses = s.responses := rfl
@[simp] theorem State.setOff_host (v : Counter) : (s.setOff v).host = s.host := rfl
@[simp] theorem State.setOff_drawn (v : Counter) : (s.setOff v).drawn = s.drawn := rfl

@[simp] theorem State.setCnt_phase (v : Counter) : (s.setCnt v).phase = s.phase := rfl
@[simp] theorem State.setCnt_cmdQ (v : Counter) : (s.setCnt v).cmdQ = s.cmdQ := rfl
@[simp] theorem State.setCnt_opndQ (v : Counter) : (s.setCnt v).opndQ = s.opndQ := rfl
@[simp] theorem State.setCnt_vy (v : Counter) : (s.setCnt v).vy = s.vy := rfl
@[simp] theorem State.setCnt_acc (v : Counter) : (s.setCnt v).acc = s.acc := rfl
@[simp] theorem State.setCnt_src (v : Counter) : (s.setCnt v).src = s.src := rfl
@[simp] theorem State.setCnt_off (v : Counter) : (s.setCnt v).off = s.off := rfl
@[simp] theorem State.setCnt_cnt (v : Counter) : (s.setCnt v).cnt = v := rfl
@[simp] theorem State.setCnt_responses (v : Counter) : (s.setCnt v).responses = s.responses := rfl
@[simp] theorem State.setCnt_host (v : Counter) : (s.setCnt v).host = s.host := rfl
@[simp] theorem State.setCnt_drawn (v : Counter) : (s.setCnt v).drawn = s.drawn := rfl

@[simp] theorem State.holding_phase (c : CmdWord) : (s.holding c).phase = .busy := rfl
@[simp] theorem State.holding_cmdQ (c : CmdWord) : (s.holding c).cmdQ = c := rfl
@[simp] theorem State.holding_opndQ (c : CmdWord) : (s.holding c).opndQ = s.opndQ := rfl
@[simp] theorem State.holding_vy (c : CmdWord) : (s.holding c).vy = s.vy := rfl
@[simp] theorem State.holding_acc (c : CmdWord) : (s.holding c).acc = s.acc := rfl
@[simp] theorem State.holding_src (c : CmdWord) : (s.holding c).src = s.src := rfl
@[simp] theorem State.holding_off (c : CmdWord) : (s.holding c).off = s.off := rfl
@[simp] theorem State.holding_cnt (c : CmdWord) : (s.holding c).cnt = s.cnt := rfl
@[simp] theorem State.holding_responses (c : CmdWord) : (s.holding c).responses = s.responses := rfl
@[simp] theorem State.holding_host (c : CmdWord) : (s.holding c).host = letEngineMove s.host := rfl
@[simp] theorem State.holding_drawn (c : CmdWord) : (s.holding c).drawn = s.drawn := rfl

end Sys2Proof.Machine
end

