-- ==== Sys2Proof/Laws/Ops.lean ====
section
/-! SUPPORT. What executing a command and making a step can do, said once: the provers cite these instead of
unfolding the 44 meanings. -/

namespace Sys2Proof.Machine

open Sys2Proof

/-- Dispatch goes by datapath and width alone (40_common_execution.md R126). -/
theorem exec_by_path (i : Instr) (s : State) :
    exec i s =
      match i.form.path with
      | .bc => runBc i.form.width.bits s
      | .vec => runVec i.form.width.bits s
      | .lut => runLut i.form.width.bits s
      | .iterA => runIterA i.form.width.bits s
      | .iterB => runIterB i.form.width.bits s
      | .iterN => runIterN s := by
  cases i <;> rfl

/-- The nibble variant exists at width 32 only (R83). -/
theorem form_width_of_iterN (i : Instr) (h : i.form.path = .iterN) : i.form.width = .w32 := by
  cases i <;> first | rfl | cases h

/-- All that a command answers: a next state that differs from the one before by one OK response, `phase`
and the datapath's own registers. -/
theorem exec_next (i : Instr) (s : State) :
    ∃ r t, exec i s = .next t ∧ t.phase = .idle ∧ t.responses = s.responses ++ [⟨r, .ok⟩]
      ∧ t.cmdQ = s.cmdQ ∧ t.opndQ = s.opndQ ∧ t.host = s.host := by
  rw [exec_by_path]
  cases i.form.path <;> exact ⟨_, _, rfl, rfl, rfl, rfl, rfl, rfl⟩

theorem runBc_next (w : Nat) (s : State) :
    runBc w s = .next ((s.setVy (bcRev (s.operand w))).respondOk (bcRev (s.operand w))) := rfl

theorem runVec_next (w : Nat) (s : State) :
    runVec w s = .next ((s.setVy (bswap (s.operand w))).respondOk (vecRev (s.operand w))) := rfl

theorem runLut_next (w : Nat) (s : State) :
    runLut w s = .next ((s.setVy (bswap (s.operand w))).respondOk (lutRev (s.operand w))) := rfl

theorem runIterA_next (w : Nat) (s : State) :
    runIterA w s = .next ((((s.setAcc (itaFinal (s.operand w)).acc).setSrc (itaFinal (s.operand w)).src).setCnt
      (itaFinal (s.operand w)).cnt).respondOk (itaFinal (s.operand w)).acc) := rfl

theorem runIterB_next (w : Nat) (s : State) :
    runIterB w s = .next ((((s.setAcc (itbFinal (s.operand w)).acc).setSrc (itbFinal (s.operand w)).src).setOff
      (itbFinal (s.operand w)).off).respondOk (itbFinal (s.operand w)).acc) := rfl

theorem runIterN_next (s : State) :
    runIterN s = .next ((((s.setAcc (itnFinal (s.operand 32)).acc).setSrc (itnFinal (s.operand 32)).src).setCnt
      (itnFinal (s.operand 32)).cnt).respondOk (itnFinal (s.operand 32)).acc) := rfl

theorem answerHeldWith_instr (floatWidths : List Nat) (s : State) (i : Instr)
    (h : decodeWith floatWidths s.cmdQ = .instr i) : s.answerHeldWith floatWidths = exec i s := by
  simp [State.answerHeldWith, h]

theorem answerHeldWith_illegal (floatWidths : List Nat) (s : State) (why : Reject)
    (h : decodeWith floatWidths s.cmdQ = .illegal why) :
    s.answerHeldWith floatWidths = .next s.takeIllegalCommand := by
  simp [State.answerHeldWith, h]

theorem answerHeld_instr (s : State) (i : Instr) (h : decode s.cmdQ = .instr i) : s.answerHeld = exec i s :=
  answerHeldWith_instr _ s i h

theorem answerHeld_illegal (s : State) (why : Reject) (h : decode s.cmdQ = .illegal why) :
    s.answerHeld = .next s.takeIllegalCommand :=
  answerHeldWith_illegal _ s why h

/-- What the engine can do when it answers the command that it holds. -/
theorem answerHeldWith_next (floatWidths : List Nat) (s : State) :
    ∃ r t, s.answerHeldWith floatWidths = .next t ∧ t.phase = .idle ∧ t.responses = s.responses ++ [r]
      ∧ t.cmdQ = s.cmdQ ∧ t.opndQ = s.opndQ ∧ t.host = s.host := by
  cases h : decodeWith floatWidths s.cmdQ with
  | instr i =>
    obtain ⟨r, t, h1, h2⟩ := exec_next i s
    exact ⟨_, t, by rw [answerHeldWith_instr _ s i h, h1], h2⟩
  | illegal why => exact ⟨_, _, answerHeldWith_illegal _ s why h, rfl, rfl, rfl, rfl, rfl⟩

theorem answerHeld_next (s : State) :
    ∃ r t, s.answerHeld = .next t ∧ t.phase = .idle ∧ t.responses = s.responses ++ [r]
      ∧ t.cmdQ = s.cmdQ ∧ t.opndQ = s.opndQ ∧ t.host = s.host :=
  answerHeldWith_next _ s

/-- Every move that a step can be, guard and effect (R110 to R112, R285), whatever `FLOAT_WIDTHS`. -/
theorem turn_cases (floatWidths : List Nat) (s : State) :
    (s.phase = .idle ∧ s.host = [] ∧ s.turn floatWidths = .next s)
    ∨ (∃ rest, s.phase = .idle ∧ s.host = .quiet :: rest
        ∧ s.turn floatWidths = .next { s with host := rest })
    ∨ (∃ rest, s.host = .take :: rest
        ∧ s.turn floatWidths = .next (State.takeResponse { s with host := rest }))
    ∨ (∃ rest, s.host = .reset :: rest
        ∧ s.turn floatWidths = .next (State.resetEvent { s with host := rest }))
    ∨ (∃ c o rest, s.phase = .idle ∧ s.host = .present c o :: rest
        ∧ s.turn floatWidths = .next (State.accept c o { s with host := rest }))
    ∨ (∃ rest, s.phase = .busy ∧ s.host = .quiet :: rest
        ∧ s.turn floatWidths = State.answerHeldWith floatWidths { s with host := rest })
    ∨ (s.phase = .busy ∧ EngineToMove s ∧ s.turn floatWidths = s.answerHeldWith floatWidths) := by
  obtain ⟨phase, cmdQ, opndQ, vy, acc, src, off, cnt, responses, host, drawn⟩ := s
  rcases host with _ | ⟨_ | _ | _ | _, rest⟩ <;> cases phase <;>
    simp [EngineToMove, State.turn, State.engineMove]

/-- Where the host lets a BUSY engine move, the step answers the held command. -/
theorem turn_of_engineToMove (floatWidths : List Nat) (s : State) (hb : s.phase = .busy)
    (hm : EngineToMove s) : s.turn floatWidths = s.answerHeldWith floatWidths := by
  obtain ⟨phase, cmdQ, opndQ, vy, acc, src, off, cnt, responses, host, drawn⟩ := s
  rcases hm with h | ⟨c, o, rest, h⟩ <;> simp only at h hb <;> subst h <;> subst hb <;> rfl

/-- `turn_of_engineToMove` for this instance of the engine. -/
theorem step_of_engineToMove (s : State) (hb : s.phase = .busy) (hm : EngineToMove s) :
    step s = s.answerHeld :=
  turn_of_engineToMove _ s hb hm

/-- `turn_cases` for this instance of the engine. -/
theorem step_cases (s : State) :
    (s.phase = .idle ∧ s.host = [] ∧ step s = .next s)
    ∨ (∃ rest, s.phase = .idle ∧ s.host = .quiet :: rest ∧ step s = .next { s with host := rest })
    ∨ (∃ rest, s.host = .take :: rest ∧ step s = .next (State.takeResponse { s with host := rest }))
    ∨ (∃ rest, s.host = .reset :: rest ∧ step s = .next (State.resetEvent { s with host := rest }))
    ∨ (∃ c o rest, s.phase = .idle ∧ s.host = .present c o :: rest
        ∧ step s = .next (State.accept c o { s with host := rest }))
    ∨ (∃ rest, s.phase = .busy ∧ s.host = .quiet :: rest ∧ step s = State.answerHeld { s with host := rest })
    ∨ (s.phase = .busy ∧ EngineToMove s ∧ step s = s.answerHeld) :=
  turn_cases _ s

end Sys2Proof.Machine
end

