-- ==== Sys2Proof/Laws/PerInstr.lean ====
section
/-! SUPPORT. What holds of every command as syntax, one lemma per constructor. -/

namespace Sys2Proof.Laws.EncodeDecodes

open Sys2Proof

/-- The word of a command decodes to that command (R88, R89). -/
def Statement (i : Instr) : Prop := decode (encode i) = .instr i

theorem bcU8 : Statement .bcU8 := rfl
theorem bcU16 : Statement .bcU16 := rfl
theorem bcU32 : Statement .bcU32 := rfl
theorem bcU64 : Statement .bcU64 := rfl
theorem bcU128 : Statement .bcU128 := rfl
theorem bcS8 : Statement .bcS8 := rfl
theorem bcS16 : Statement .bcS16 := rfl
theorem bcS32 : Statement .bcS32 := rfl
theorem bcS64 : Statement .bcS64 := rfl
theorem bcS128 : Statement .bcS128 := rfl
theorem bcF16 : Statement .bcF16 := rfl
theorem bcF32 : Statement .bcF32 := rfl
theorem bcF64 : Statement .bcF64 := rfl
theorem bcF128 : Statement .bcF128 := rfl
theorem vecU8 : Statement .vecU8 := rfl
theorem vecU16 : Statement .vecU16 := rfl
theorem vecU32 : Statement .vecU32 := rfl
theorem vecU64 : Statement .vecU64 := rfl
theorem vecU128 : Statement .vecU128 := rfl
theorem lutU8 : Statement .lutU8 := rfl
theorem lutU16 : Statement .lutU16 := rfl
theorem lutU32 : Statement .lutU32 := rfl
theorem lutU64 : Statement .lutU64 := rfl
theorem lutU128 : Statement .lutU128 := rfl
theorem lutS8 : Statement .lutS8 := rfl
theorem lutS16 : Statement .lutS16 := rfl
theorem lutS32 : Statement .lutS32 := rfl
theorem lutS64 : Statement .lutS64 := rfl
theorem lutS128 : Statement .lutS128 := rfl
theorem lutF16 : Statement .lutF16 := rfl
theorem lutF32 : Statement .lutF32 := rfl
theorem lutF64 : Statement .lutF64 := rfl
theorem lutF128 : Statement .lutF128 := rfl
theorem iterAU8 : Statement .iterAU8 := rfl
theorem iterAU16 : Statement .iterAU16 := rfl
theorem iterAU32 : Statement .iterAU32 := rfl
theorem iterAU64 : Statement .iterAU64 := rfl
theorem iterAU128 : Statement .iterAU128 := rfl
theorem iterBU8 : Statement .iterBU8 := rfl
theorem iterBU16 : Statement .iterBU16 := rfl
theorem iterBU32 : Statement .iterBU32 := rfl
theorem iterBU64 : Statement .iterBU64 := rfl
theorem iterBU128 : Statement .iterBU128 := rfl
theorem iterNU32 : Statement .iterNU32 := rfl

end Sys2Proof.Laws.EncodeDecodes

namespace Sys2Proof.Laws.FormDecodes

open Sys2Proof

/-- The form of a command exists (R87) and is that command's. -/
def Statement (i : Instr) : Prop := i.form.wellFormed = true ∧ i.form.decodeWith Config.floatWidths = .instr i

theorem bcU8 : Statement .bcU8 := ⟨rfl, rfl⟩
theorem bcU16 : Statement .bcU16 := ⟨rfl, rfl⟩
theorem bcU32 : Statement .bcU32 := ⟨rfl, rfl⟩
theorem bcU64 : Statement .bcU64 := ⟨rfl, rfl⟩
theorem bcU128 : Statement .bcU128 := ⟨rfl, rfl⟩
theorem bcS8 : Statement .bcS8 := ⟨rfl, rfl⟩
theorem bcS16 : Statement .bcS16 := ⟨rfl, rfl⟩
theorem bcS32 : Statement .bcS32 := ⟨rfl, rfl⟩
theorem bcS64 : Statement .bcS64 := ⟨rfl, rfl⟩
theorem bcS128 : Statement .bcS128 := ⟨rfl, rfl⟩
theorem bcF16 : Statement .bcF16 := ⟨rfl, rfl⟩
theorem bcF32 : Statement .bcF32 := ⟨rfl, rfl⟩
theorem bcF64 : Statement .bcF64 := ⟨rfl, rfl⟩
theorem bcF128 : Statement .bcF128 := ⟨rfl, rfl⟩
theorem vecU8 : Statement .vecU8 := ⟨rfl, rfl⟩
theorem vecU16 : Statement .vecU16 := ⟨rfl, rfl⟩
theorem vecU32 : Statement .vecU32 := ⟨rfl, rfl⟩
theorem vecU64 : Statement .vecU64 := ⟨rfl, rfl⟩
theorem vecU128 : Statement .vecU128 := ⟨rfl, rfl⟩
theorem lutU8 : Statement .lutU8 := ⟨rfl, rfl⟩
theorem lutU16 : Statement .lutU16 := ⟨rfl, rfl⟩
theorem lutU32 : Statement .lutU32 := ⟨rfl, rfl⟩
theorem lutU64 : Statement .lutU64 := ⟨rfl, rfl⟩
theorem lutU128 : Statement .lutU128 := ⟨rfl, rfl⟩
theorem lutS8 : Statement .lutS8 := ⟨rfl, rfl⟩
theorem lutS16 : Statement .lutS16 := ⟨rfl, rfl⟩
theorem lutS32 : Statement .lutS32 := ⟨rfl, rfl⟩
theorem lutS64 : Statement .lutS64 := ⟨rfl, rfl⟩
theorem lutS128 : Statement .lutS128 := ⟨rfl, rfl⟩
theorem lutF16 : Statement .lutF16 := ⟨rfl, rfl⟩
theorem lutF32 : Statement .lutF32 := ⟨rfl, rfl⟩
theorem lutF64 : Statement .lutF64 := ⟨rfl, rfl⟩
theorem lutF128 : Statement .lutF128 := ⟨rfl, rfl⟩
theorem iterAU8 : Statement .iterAU8 := ⟨rfl, rfl⟩
theorem iterAU16 : Statement .iterAU16 := ⟨rfl, rfl⟩
theorem iterAU32 : Statement .iterAU32 := ⟨rfl, rfl⟩
theorem iterAU64 : Statement .iterAU64 := ⟨rfl, rfl⟩
theorem iterAU128 : Statement .iterAU128 := ⟨rfl, rfl⟩
theorem iterBU8 : Statement .iterBU8 := ⟨rfl, rfl⟩
theorem iterBU16 : Statement .iterBU16 := ⟨rfl, rfl⟩
theorem iterBU32 : Statement .iterBU32 := ⟨rfl, rfl⟩
theorem iterBU64 : Statement .iterBU64 := ⟨rfl, rfl⟩
theorem iterBU128 : Statement .iterBU128 := ⟨rfl, rfl⟩
theorem iterNU32 : Statement .iterNU32 := ⟨rfl, rfl⟩

end Sys2Proof.Laws.FormDecodes
end

