-- ==== Sys2Proof/Tests/Slice0.lean ====
section
/-! SUPPORT. Tests of the model against the words, tables and vectors that the spec writes out, and a witness for the
hypotheses of each statement. Expected values come from 30_encoding.md R88 and 95_test_vectors.md. -/

namespace Sys2Proof.Tests

-- One theorem at a time: the kernel evaluations of many at once reserve more memory than a checker may have.
set_option Elab.async false

open Sys2Proof Sys2Proof.Machine

/-! ### Well-formedness: a form that each check refuses (30_encoding.md R87, R90) -/

theorem test_wellFormed_refuses_signed_vector : Form.wellFormed ⟨.vec, .s, .w32⟩ = false := by decide

theorem test_wellFormed_refuses_float_iterative : Form.wellFormed ⟨.iterA, .f, .w32⟩ = false := by decide

theorem test_wellFormed_refuses_signed_nibble_variant : Form.wellFormed ⟨.iterN, .s, .w32⟩ = false := by decide

theorem test_wellFormed_refuses_nibble_variant_at_16 : Form.wellFormed ⟨.iterN, .u, .w16⟩ = false := by decide

theorem test_wellFormed_refuses_float_at_8 : Form.wellFormed ⟨.bc, .f, .w8⟩ = false := by decide

theorem test_wellFormed_refuses_float_outside_the_set :
    Form.wellFormedWith [32, 64] ⟨.lut, .f, .w16⟩ = false := by decide

theorem test_wellFormed_admits_float_in_the_set : Form.wellFormedWith [32, 64] ⟨.lut, .f, .w32⟩ = true := by decide

theorem test_every_command_is_wellFormed (i : Instr) : i.wellFormed = true := by cases i <;> decide

/-! ### Decoding: the words of R88, bit by bit -/

theorem test_decode_bc_u :
    decode 0b0000000010000000 = .instr .bcU8
      ∧ decode 0b0000000010000001 = .instr .bcU16
      ∧ decode 0b0000000010000010 = .instr .bcU32
      ∧ decode 0b0000000010000011 = .instr .bcU64
      ∧ decode 0b0000000010000100 = .instr .bcU128 := by
  decide

theorem test_decode_bc_s :
    decode 0b0000000010001000 = .instr .bcS8
      ∧ decode 0b0000000010001001 = .instr .bcS16
      ∧ decode 0b0000000010001010 = .instr .bcS32
      ∧ decode 0b0000000010001011 = .instr .bcS64
      ∧ decode 0b0000000010001100 = .instr .bcS128 := by
  decide

theorem test_decode_bc_f :
    decode 0b0000000010010001 = .instr .bcF16
      ∧ decode 0b0000000010010010 = .instr .bcF32
      ∧ decode 0b0000000010010011 = .instr .bcF64
      ∧ decode 0b0000000010010100 = .instr .bcF128 := by
  decide

theorem test_decode_vec_u :
    decode 0b0000000100000000 = .instr .vecU8
      ∧ decode 0b0000000100000001 = .instr .vecU16
      ∧ decode 0b0000000100000010 = .instr .vecU32
      ∧ decode 0b0000000100000011 = .instr .vecU64
      ∧ decode 0b0000000100000100 = .instr .vecU128 := by
  decide

theorem test_decode_lut_u :
    decode 0b0000000110000000 = .instr .lutU8
      ∧ decode 0b0000000110000001 = .instr .lutU16
      ∧ decode 0b0000000110000010 = .instr .lutU32
      ∧ decode 0b0000000110000011 = .instr .lutU64
      ∧ decode 0b0000000110000100 = .instr .lutU128 := by
  decide

theorem test_decode_lut_s :
    decode 0b0000000110001000 = .instr .lutS8
      ∧ decode 0b0000000110001001 = .instr .lutS16
      ∧ decode 0b0000000110001010 = .instr .lutS32
      ∧ decode 0b0000000110001011 = .instr .lutS64
      ∧ decode 0b0000000110001100 = .instr .lutS128 := by
  decide

theorem test_decode_lut_f :
    decode 0b0000000110010001 = .instr .lutF16
      ∧ decode 0b0000000110010010 = .instr .lutF32
      ∧ decode 0b0000000110010011 = .instr .lutF64
      ∧ decode 0b0000000110010100 = .instr .lutF128 := by
  decide

theorem test_decode_iterA_u :
    decode 0b0000001000000000 = .instr .iterAU8
      ∧ decode 0b0000001000000001 = .instr .iterAU16
      ∧ decode 0b0000001000000010 = .instr .iterAU32
      ∧ decode 0b0000001000000011 = .instr .iterAU64
      ∧ decode 0b0000001000000100 = .instr .iterAU128 := by
  decide

theorem test_decode_iterB_u :
    decode 0b0000001000100000 = .instr .iterBU8
      ∧ decode 0b0000001000100001 = .instr .iterBU16
      ∧ decode 0b0000001000100010 = .instr .iterBU32
      ∧ decode 0b0000001000100011 = .instr .iterBU64
      ∧ decode 0b0000001000100100 = .instr .iterBU128 := by
  decide

theorem test_decode_iterN_u :
    decode 0b0000001001000010 = .instr .iterNU32 := by
  decide

/-! ### Decoding: the illegal words of 95_test_vectors.md 8.1 -/

theorem test_reject_strategy :
    decode 0x0000 = .illegal .strategy
      ∧ decode 0x0002 = .illegal .strategy
      ∧ decode 0x0282 = .illegal .strategy
      ∧ decode 0x0302 = .illegal .strategy
      ∧ decode 0x0382 = .illegal .strategy := by
  decide

theorem test_reject_zero :
    decode 0xFFFF = .illegal .zero
      ∧ decode 0x0482 = .illegal .zero
      ∧ decode 0x8082 = .illegal .zero := by
  decide

theorem test_reject_width :
    decode 0x0085 = .illegal .width
      ∧ decode 0x0087 = .illegal .width := by
  decide

theorem test_reject_kind :
    decode 0x0098 = .illegal .kind := by
  decide

theorem test_reject_floatWidth :
    decode 0x0090 = .illegal .floatWidth
      ∧ decode 0x0190 = .illegal .floatWidth := by
  decide

theorem test_reject_variant :
    decode 0x00A2 = .illegal .variant
      ∧ decode 0x0122 = .illegal .variant
      ∧ decode 0x01C2 = .illegal .variant
      ∧ decode 0x0262 = .illegal .variant := by
  decide

theorem test_reject_kindOfStrategy :
    decode 0x010A = .illegal .kindOfStrategy
      ∧ decode 0x0112 = .illegal .kindOfStrategy
      ∧ decode 0x020A = .illegal .kindOfStrategy
      ∧ decode 0x0212 = .illegal .kindOfStrategy
      ∧ decode 0x024A = .illegal .kindOfStrategy := by
  decide

theorem test_reject_nibbleWidth :
    decode 0x0241 = .illegal .nibbleWidth
      ∧ decode 0x0243 = .illegal .nibbleWidth
      ∧ decode 0x0240 = .illegal .nibbleWidth
      ∧ decode 0x0244 = .illegal .nibbleWidth := by
  decide

theorem test_tableWord : decodeTableWord 16 0x0242 = some .iterNU32 ∧ decodeTableWord 16 0x0243 = none := by decide

/-! ### One step for each command

A response is read off the next state; the registers whose upper bits are free are not. -/

/-- An engine that holds a command, with nothing else to do. -/
def holdingState (c : CmdWord) (o : BusWord) : State :=
  { State.reset with phase := .busy, cmdQ := c, opndQ := o }

/-- What a step answers, as far as the host can see it, with the counters. -/
def seen (a : Answer) : Option (Phase × List Response × Counter × Counter) :=
  match a with
  | .next t => some (t.phase, t.responses, t.off, t.cnt)
  | .fault _ => none
  | .refused _ => none

/-- What is seen after an OK response. -/
def answersOk (res : BusWord) (off cnt : Counter) : Option (Phase × List Response × Counter × Counter) :=
  some (.idle, [⟨res, .ok⟩], off, cnt)

/-- 95_test_vectors.md section 8.3. -/
theorem test_step_bcU8 : seen (step (holdingState 0x0080 0xFFFFFFFFFFFFFFFFFFFFFFFFFFFFFF01)) =
    answersOk 0x80 0 0 := by
  decide +kernel

/-- 95_test_vectors.md section 3. -/
theorem test_step_bcU16 : seen (step (holdingState 0x0081 0x1234)) =
    answersOk 0x2C48 0 0 := by
  decide +kernel

/-- 95_test_vectors.md section 3. -/
theorem test_step_bcU32 : seen (step (holdingState 0x0082 0x12345678)) =
    answersOk 0x1E6A2C48 0 0 := by
  decide +kernel

/-- 95_test_vectors.md section 8.3. -/
theorem test_step_bcU64 : seen (step (holdingState 0x0083 0xFFFFFFFFFFFFFFFF0000000000000001)) =
    answersOk 0x8000000000000000 0 0 := by
  decide +kernel

/-- 95_test_vectors.md section 3. -/
theorem test_step_bcU128 : seen (step (holdingState 0x0084 0x000102030405060708090A0B0C0D0E0F)) =
    answersOk 0xF070B030D0509010E060A020C0408000 0 0 := by
  decide +kernel

/-- 95_test_vectors.md section 8.3. -/
theorem test_step_bcS8 : seen (step (holdingState 0x0088 0xDEADBEEFDEADBEEFDEADBEEFDEADBE80)) =
    answersOk 0x01 0 0 := by
  decide +kernel

/-- 95_test_vectors.md section 3. -/
theorem test_step_bcS16 : seen (step (holdingState 0x0089 0xFFFE)) =
    answersOk 0x7FFF 0 0 := by
  decide +kernel

/-- 95_test_vectors.md section 3. -/
theorem test_step_bcS32 : seen (step (holdingState 0x008A 0x80000000)) =
    answersOk 0x00000001 0 0 := by
  decide +kernel

/-- 95_test_vectors.md section 3. -/
theorem test_step_bcS64 : seen (step (holdingState 0x008B 0xFFFFFFFFFFFFFFFE)) =
    answersOk 0x7FFFFFFFFFFFFFFF 0 0 := by
  decide +kernel

/-- 95_test_vectors.md section 3. -/
theorem test_step_bcS128 : seen (step (holdingState 0x008C 0x80000000000000000000000000000000)) =
    answersOk 0x00000000000000000000000000000001 0 0 := by
  decide +kernel

/-- 95_test_vectors.md section 3. -/
theorem test_step_bcF16 : seen (step (holdingState 0x0091 0x3C00)) =
    answersOk 0x003C 0 0 := by
  decide +kernel

/-- 95_test_vectors.md section 3. -/
theorem test_step_bcF32 : seen (step (holdingState 0x0092 0x7FC00000)) =
    answersOk 0x000003FE 0 0 := by
  decide +kernel

/-- 95_test_vectors.md section 3. -/
theorem test_step_bcF64 : seen (step (holdingState 0x0093 0x3FF0000000000000)) =
    answersOk 0x0000000000000FFC 0 0 := by
  decide +kernel

/-- 95_test_vectors.md section 3. -/
theorem test_step_bcF128 : seen (step (holdingState 0x0094 0x3FFF0000000000000000000000000000)) =
    answersOk 0x0000000000000000000000000000FFFC 0 0 := by
  decide +kernel

/-- 95_test_vectors.md section 4. -/
theorem test_step_vecU8 : seen (step (holdingState 0x0100 0x12)) =
    answersOk 0x48 0 0 := by
  decide +kernel

/-- 95_test_vectors.md section 8.3. -/
theorem test_step_vecU16 : seen (step (holdingState 0x0101 0xAAAAAAAAAAAAAAAAAAAAAAAAAAAA00FF)) =
    answersOk 0xFF00 0 0 := by
  decide +kernel

/-- 95_test_vectors.md section 4. -/
theorem test_step_vecU32 : seen (step (holdingState 0x0102 0xDEADBEEF)) =
    answersOk 0xF77DB57B 0 0 := by
  decide +kernel

/-- 95_test_vectors.md section 4. -/
theorem test_step_vecU64 : seen (step (holdingState 0x0103 0x0123456789ABCDEF)) =
    answersOk 0xF7B3D591E6A2C480 0 0 := by
  decide +kernel

/-- 95_test_vectors.md section 4. -/
theorem test_step_vecU128 : seen (step (holdingState 0x0104 0x000102030405060708090A0B0C0D0E0F)) =
    answersOk 0xF070B030D0509010E060A020C0408000 0 0 := by
  decide +kernel

/-- 95_test_vectors.md section 5. -/
theorem test_step_lutU8 : seen (step (holdingState 0x0180 0xF0)) =
    answersOk 0x0F 0 0 := by
  decide +kernel

/-- 95_test_vectors.md section 5. -/
theorem test_step_lutU16 : seen (step (holdingState 0x0181 0x1234)) =
    answersOk 0x2C48 0 0 := by
  decide +kernel

/-- 95_test_vectors.md section 8.3. -/
theorem test_step_lutU32 : seen (step (holdingState 0x0182 0xFFFFFFFFFFFFFFFFFFFFFFFF00000001)) =
    answersOk 0x80000000 0 0 := by
  decide +kernel

/-- 95_test_vectors.md section 9 P6. -/
theorem test_step_lutU64 : seen (step (holdingState 0x0183 0x000102030405060708090A0B0C0D0E0F)) =
    answersOk 0xF070B030D0509010 0 0 := by
  decide +kernel

/-- 95_test_vectors.md section 5. -/
theorem test_step_lutU128 : seen (step (holdingState 0x0184 0x0123456789ABCDEFFEDCBA9876543210)) =
    answersOk 0x084C2A6E195D3B7FF7B3D591E6A2C480 0 0 := by
  decide +kernel

/-- 95_test_vectors.md section 5. -/
theorem test_step_lutS8 : seen (step (holdingState 0x0188 0xFE)) =
    answersOk 0x7F 0 0 := by
  decide +kernel

/-- 95_test_vectors.md section 8.3. -/
theorem test_step_lutS16 : seen (step (holdingState 0x0189 0x1FFFE)) =
    answersOk 0x7FFF 0 0 := by
  decide +kernel

/-- 95_test_vectors.md section 5. -/
theorem test_step_lutS32 : seen (step (holdingState 0x018A 0xFFFFFFFE)) =
    answersOk 0x7FFFFFFF 0 0 := by
  decide +kernel

/-- 95_test_vectors.md section 9 P4. -/
theorem test_step_lutS64 : seen (step (holdingState 0x018B 0xFFFFFFFFFFFFFFFE)) =
    answersOk 0x7FFFFFFFFFFFFFFF 0 0 := by
  decide +kernel

/-- 95_test_vectors.md section 2. -/
theorem test_step_lutS128 : seen (step (holdingState 0x018C 0xFFFFFFFFFFFFFFFFFFFFFFFFFFFFFFFE)) =
    answersOk 0x7FFFFFFFFFFFFFFFFFFFFFFFFFFFFFFF 0 0 := by
  decide +kernel

/-- 95_test_vectors.md section 5. -/
theorem test_step_lutF16 : seen (step (holdingState 0x0191 0x3C00)) =
    answersOk 0x003C 0 0 := by
  decide +kernel

/-- 95_test_vectors.md section 5. -/
theorem test_step_lutF32 : seen (step (holdingState 0x0192 0x3F800000)) =
    answersOk 0x000001FC 0 0 := by
  decide +kernel

/-- 95_test_vectors.md section 5. -/
theorem test_step_lutF64 : seen (step (holdingState 0x0193 0x3FF0000000000000)) =
    answersOk 0x0000000000000FFC 0 0 := by
  decide +kernel

/-- 95_test_vectors.md section 5. -/
theorem test_step_lutF128 : seen (step (holdingState 0x0194 0x3FFF0000000000000000000000000000)) =
    answersOk 0x0000000000000000000000000000FFFC 0 0 := by
  decide +kernel

/-- 95_test_vectors.md section 9 P6. -/
theorem test_step_iterAU8 : seen (step (holdingState 0x0200 0xFFFFFFFFFFFFFFFFFFFFFFFFFFFFFF01)) =
    answersOk 0x80 0 8 := by
  decide +kernel

/-- 95_test_vectors.md section 6. -/
theorem test_step_iterAU16 : seen (step (holdingState 0x0201 0x1234)) =
    answersOk 0x2C48 0 16 := by
  decide +kernel

/-- 95_test_vectors.md section 8.3. -/
theorem test_step_iterAU32 : seen (step (holdingState 0x0202 0x0123456789ABCDEF0123456712345678)) =
    answersOk 0x1E6A2C48 0 32 := by
  decide +kernel

/-- 95_test_vectors.md section 6. -/
theorem test_step_iterAU64 : seen (step (holdingState 0x0203 0x0123456789ABCDEF)) =
    answersOk 0xF7B3D591E6A2C480 0 64 := by
  decide +kernel

/-- 95_test_vectors.md section 6. -/
theorem test_step_iterAU128 : seen (step (holdingState 0x0204 0x0123456789ABCDEFFEDCBA9876543210)) =
    answersOk 0x084C2A6E195D3B7FF7B3D591E6A2C480 0 128 := by
  decide +kernel

/-- 95_test_vectors.md section 8.3. -/
theorem test_step_iterBU8 : seen (step (holdingState 0x0220 0xFFFFFFFFFFFFFFFFFFFFFFFFFFFFFF00)) =
    answersOk 0x00 7 0 := by
  decide +kernel

/-- 95_test_vectors.md section 6. -/
theorem test_step_iterBU16 : seen (step (holdingState 0x0221 0x1234)) =
    answersOk 0x2C48 2 0 := by
  decide +kernel

/-- 95_test_vectors.md section 6. -/
theorem test_step_iterBU32 : seen (step (holdingState 0x0222 0x7FC00000)) =
    answersOk 0x000003FE 0 0 := by
  decide +kernel

/-- 95_test_vectors.md section 6. -/
theorem test_step_iterBU64 : seen (step (holdingState 0x0223 0x8000000000000000)) =
    answersOk 0x0000000000000001 255 0 := by
  decide +kernel

/-- 95_test_vectors.md section 6. -/
theorem test_step_iterBU128 : seen (step (holdingState 0x0224 0x0123456789ABCDEFFEDCBA9876543210)) =
    answersOk 0x084C2A6E195D3B7FF7B3D591E6A2C480 6 0 := by
  decide +kernel

/-- 95_test_vectors.md section 8.3. -/
theorem test_step_iterNU32 : seen (step (holdingState 0x0242 0xFFFFFFFFFFFFFFFFFFFFFFFF00000001)) =
    answersOk 0x80000000 0 8 := by
  decide +kernel
/-! ### Other steps -/

/-- 95_test_vectors.md 8.2. -/
theorem test_step_illegal :
    seen (step (holdingState 0xFFFF 0xFFFFFFFFFFFFFFFFFFFFFFFFFFFFFFFF)) = some (.idle, [⟨0, .illegal⟩], 0, 0) := by
  decide +kernel

theorem test_withFetchWord_runs_the_word :
    seen (step (State.reset.withFetchWord 16 0x0220)) = answersOk 0 7 0 := by decide +kernel

/-- A response that has not been taken stays in front (10_state.md R34). -/
theorem test_responses_keep_their_order :
    seen (step { holdingState 0x0180 0xF0 with responses := [⟨0, .illegal⟩] })
      = some (.idle, [⟨0, .illegal⟩, ⟨0x0F, .ok⟩], 0, 0) := by decide +kernel

/-- 95_test_vectors.md section 9, P5, step 4: the result of shape (b) does not see what `acc` and `off` held. -/
theorem test_shape_b_starts_afresh :
    seen (step { holdingState 0x0220 0x01 with acc := BitVec.allOnes 128, off := 255 }) = answersOk 0x80 6 0 := by
  decide +kernel

theorem test_take_from_empty_channel : seen (step { State.reset with host := [.take] }) = some (.idle, [], 0, 0) := by
  decide +kernel

/-! ### The text of commands and responses (30_encoding.md R93) -/

/-- 95_test_vectors.md section 9, P4, step 6. -/
theorem test_assemble_hexadecimal :
    assemble "REV.LUT.F32 0x7FC00000".toList = some (0x0192, 0x7FC00000) := by decide +kernel

theorem test_assemble_binary : assemble "REV.ITER.B.U8 0b00010010".toList = some (0x0220, 0x12) := by decide +kernel

theorem test_assemble_decimal : assemble "REV.BC.U8 240".toList = some (0x0080, 0xF0) := by decide +kernel

theorem test_assemble_small_letters : assemble "REV.BC.U16 0xbeef".toList = some (0x0081, 0xBEEF) := by
  decide +kernel

theorem test_assemble_refuses_other_digits :
    assemble "REV.BC.U16 0xG".toList = none ∧ assemble "REV.BC.U16 0b2".toList = none
      ∧ assemble "REV.BC.U16 1F".toList = none := by decide +kernel

theorem test_assemble_refuses_a_wide_operand : assemble "REV.BC.U8 0x100".toList = none := by decide +kernel

theorem test_assemble_accepts_an_illegal_form :
    assemble "REV.VEC.S32 0xDEADBEEF".toList = some (0x010A, 0xDEADBEEF) := by decide +kernel

theorem test_response_text :
    Response.text .w8 ⟨0x0F, .ok⟩ = "-> res=0F status=OK".toList := by decide +kernel

/-! ### Witnesses: what meets the hypotheses of each statement -/

/-- REV.BC.U8 on 0x01 answers 0x80 (95_test_vectors.md section 1, E1). -/
theorem responds_bcU8 : Responds 0x0080 0x01 ⟨0x80, .ok⟩ := by
  intro s h
  obtain ⟨hb, hc, ho, hm⟩ := h
  rw [step_of_engineToMove s hb hm, answerHeld_instr s .bcU8 (by rw [hc]; decide)]
  refine ⟨_, runBc_next 8 s, rfl, ?_, rfl, rfl, rfl⟩
  show s.responses ++ [⟨onBus (bcRev (s.opndQ.setWidth 8)), .ok⟩] = _
  rw [ho]
  exact congrArg (fun r => s.responses ++ [Response.mk r Status.ok]) (by decide +kernel)

/-- REV.ITER.N.U32 on 1 answers 0x80000000 (95_test_vectors.md section 1, E6). -/
theorem responds_iterNU32 : Responds 0x0242 0x00000001 ⟨0x80000000, .ok⟩ := by
  intro s h
  obtain ⟨hb, hc, ho, hm⟩ := h
  rw [step_of_engineToMove s hb hm, answerHeld_instr s .iterNU32 (by rw [hc]; decide)]
  refine ⟨_, runIterN_next s, rfl, ?_, rfl, rfl, rfl⟩
  show s.responses ++ [⟨onBus (itnFinal (s.opndQ.setWidth 32)).acc, .ok⟩] = _
  rw [ho]
  exact congrArg (fun r => s.responses ++ [Response.mk r Status.ok]) (by decide +kernel)

theorem holdingState_holds (c : CmdWord) (o : BusWord) : Holds c o (holdingState c o) :=
  ⟨rfl, rfl, rfl, .inl rfl⟩

/-- A busy engine whose host lets one step pass and then takes a response. -/
def quietState (c : CmdWord) : State := { holdingState c 1 with host := [.quiet, .take] }

theorem witness_DecodingIsTheLegalityTest :
    decode 0x0094 = .instr .bcF128 ∧ (¬ ∃ i, decode 0xFFFF = .instr i)
      ∧ Holds 0xFFFF 7 (holdingState 0xFFFF 7) ∧ (quietState 0xFFFF).phase = .busy
      ∧ (quietState 0xFFFF).cmdQ = 0xFFFF ∧ (quietState 0xFFFF).host = .quiet :: [.take] :=
  ⟨by decide,
    by rintro ⟨i, h⟩; exact Decoded.noConfusion (h.symm.trans (by decide : _ = Decoded.illegal .zero)),
    holdingState_holds _ _, rfl, rfl, rfl⟩

theorem witness_FloatWidthsOnlyDecideFloatWords :
    (fieldsOf 0x0080).kind.toNat ≠ 2 ∧ 8 ∈ [8, 16] ∧ 8 ∈ [8] := by decide

theorem witness_HexOperandsReadBack : 15 < 16 ^ (0 + 1) ∧ 16 ^ 32 - 1 < 16 ^ (31 + 1) := by decide

theorem witness_RevMirrorsBitsAndText : 0 < Width.w8.bits ∧ 127 < Width.w128.bits := by decide

theorem witness_RevIsAnInvolution :
    legal 0x0080 = true ∧ Responds 0x0080 0x01 ⟨0x80, .ok⟩ := ⟨by decide, responds_bcU8⟩

theorem witness_RevConsequences : 0 < Width.w8.bits ∧ 127 < Width.w128.bits := by decide

theorem witness_BswapReversesLanes :
    0 < Width.w8.bits / 8 ∧ 15 < Width.w128.bits / 8 ∧ 7 < 8
      ∧ ∀ j, j < Width.w16.bits / 8 →
          (0xFF00 : BitVec Width.w16.bits).extractLsb' (Width.w16.bits - 8 - 8 * j) 8
            = (0x00FF : BitVec Width.w16.bits).extractLsb' (
              Width.w16.bits - 8 - 8 * (Width.w16.bits / 8 - 1 - j)) 8 := by
  decide +kernel

theorem witness_CompositionIdentity : 0 < Width.w8.bits / 8 ∧ 15 < Width.w128.bits / 8 := by decide

theorem witness_VectorResultIgnoresLaneCount : 0 < 1 ∧ 0 < Config.lanes := by decide

theorem witness_VectorTermsDoNotCross :
    0 < 8 ∧ 7 < 8 ∧ 15 < Width.w128.bits / 8 ∧ [7, 6, 5, 4, 3, 2, 1, 0].Perm (List.range 8) := by decide

/-- The first i, the last i, and the bit clauses on both sides of i. -/
theorem witness_ShapeAInvariant :
    0 ≤ Width.w8.bits ∧ 128 ≤ Width.w128.bits ∧ 127 < Width.w128.bits ∧ 0 < 1 ∧ 1 ≤ 1 := by decide

/-- Operands with L = 0, L = W−1 and L = W, and each clause at a boundary. -/
theorem witness_ShapeBInvariant :
    bitLength (0x00 : BitVec Width.w8.bits) ≤ 0 ∧ bitLength (0x01 : BitVec Width.w8.bits) = 0 + 1
      ∧ 0 ≤ bitLength (0x00 : BitVec Width.w8.bits) ∧ 8 ≤ bitLength (0x80 : BitVec Width.w8.bits)
      ∧ 7 < bitLength (0x80 : BitVec Width.w8.bits)
      ∧ bitLength (0x80 : BitVec Width.w8.bits) = Width.w8.bits
      ∧ bitLength (0x7F : BitVec Width.w8.bits) < Width.w8.bits ∧ 7 ≤ 7 ∧ 7 < Width.w8.bits := by decide +kernel

theorem witness_NibbleVariantPlacesNibbles :
    0 < 8 ∧ 7 < 8 ∧ (27 < 28 - 4 * 0) ∧ ¬ (28 < 28 - 4 * 0 ∨ 31 - 4 * 0 < 28) ∧ 4 > 31 - 4 * 7 := by decide

theorem witness_IterativeShapesAgree :
    Instr.iterNU32.form.path ∈ [Datapath.iterA, .iterB, .iterN]
      ∧ Instr.iterBU32.form.path ∈ [Datapath.iterA, .iterB, .iterN]
      ∧ Instr.iterNU32.form.width = Instr.iterBU32.form.width
      ∧ Responds (encode .iterNU32) 0x00000001 ⟨0x80000000, .ok⟩ :=
  ⟨by decide, by decide, by decide, responds_iterNU32⟩

/-- `LaneRule`: the lowest and the highest lane. -/
theorem witness_LaneRule : 0 < Width.w8.bits / 8 ∧ 15 < Width.w128.bits / 8 := by decide

/-- `VectorCorners`: the first and the last mask; and one of the words that do not exist. -/
theorem witness_VectorizedCommands :
    0 < 8 ∧ 7 < 8 ∧ (0x0108 : CmdWord) ∈ ([0x0108, 0x0109, 0x0111] : List CmdWord) := by decide

theorem witness_CountedIterativeCommands :
    0 < Width.w8.bits ∧ 127 < Width.w128.bits
      ∧ (0x0240 : CmdWord) ∈ ([0x0208, 0x0240, 0x024A] : List CmdWord) := by decide

theorem witness_OffsetCorners : (0x80 : BitVec Width.w8.bits).msb = true := by decide

theorem witness_MasterRule :
    legal 0x0000 = false ∧ legal 0x0080 = true ∧ Holds 0x0080 0x01 (holdingState 0x0080 0x01) :=
  ⟨by decide, by decide, holdingState_holds _ _⟩

/-- A set that holds 8 and one that holds nothing, a state for each side of the last clause. -/
theorem witness_EngineForAnyFloatWidths :
    Holds 0x0090 0x01 (holdingState 0x0090 0x01) ∧ State.reset.phase = .idle
      ∧ (fieldsOf (holdingState 0x0080 1).cmdQ).kind.toNat ≠ 2 :=
  ⟨holdingState_holds _ _, rfl, by decide⟩

/-- An engine whose `FLOAT_WIDTHS` holds 8 answers REV.BC.F8 (30_encoding.md R88, the pattern of E1), and one
whose set is {32, 64} refuses REV.BC.F16. -/
theorem test_turn_takes_the_float_widths :
    seen (State.turn [8, 16] (holdingState 0x0090 0x01)) = answersOk 0x80 0 0
      ∧ seen (State.turn [32, 64] (holdingState 0x0091 0x3C00)) = some (.idle, [⟨0, .illegal⟩], 0, 0) := by
  decide +kernel

theorem witness_CrossStrategyEquivalence :
    legal 0x0080 = true ∧ legal 0x0220 = true ∧ (fieldsOf 0x0080).wsel = (fieldsOf 0x0220).wsel
      ∧ Responds 0x0080 0x01 ⟨0x80, .ok⟩ :=
  ⟨by decide, by decide, by decide, responds_bcU8⟩

theorem witness_KindIndependence :
    Instr.bcS16.form.path = Instr.bcF16.form.path ∧ Instr.bcS16.form.width = Instr.bcF16.form.width := by decide

theorem witness_OperandAboveWidthIsIgnored :
    legal 0x0080 = true
      ∧ (0x01 : BusWord).setWidth (selectedWidth 0x0080) = (0xFF01 : BusWord).setWidth (selectedWidth 0x0080)
      ∧ selectedWidth 0x0080 ≤ 8 ∧ Responds 0x0080 0x01 ⟨0x80, .ok⟩ :=
  ⟨by decide, by decide, by decide, responds_bcU8⟩

theorem witness_IllegalCommandOnlyAnswers :
    legal 0x0090 = false ∧ Holds 0x0090 0x12 (holdingState 0x0090 0x12) ∧ (quietState 0x0090).phase = .busy
      ∧ (quietState 0x0090).cmdQ = 0x0090 ∧ (quietState 0x0090).host = .quiet :: [.take] :=
  ⟨by decide, holdingState_holds _ _, rfl, rfl, rfl⟩

theorem witness_StepRunsTheDecodedCommand :
    (holdingState 0x0100 1).phase = .busy ∧ decode (holdingState 0x0100 1).cmdQ = .instr .vecU8
      ∧ EngineToMove (holdingState 0x0100 1)
      ∧ (quietState 0x0100).phase = .busy ∧ decode (quietState 0x0100).cmdQ = .instr .vecU8
      ∧ (quietState 0x0100).host = .quiet :: [.take] :=
  ⟨rfl, by decide, .inl rfl, rfl, by decide, rfl⟩

theorem witness_PlacedWordRunsNext : ∀ rest, State.reset.host ≠ .quiet :: rest := by
  intro rest h
  cases h

theorem witness_AcceptLatchesTheCommand :
    State.phase { State.reset with host := [.present 0x0080 1] } = .idle
      ∧ State.host { State.reset with host := [.present 0x0080 1] } = .present 0x0080 1 :: [] := ⟨rfl, rfl⟩

theorem witness_BusyCommandWaits :
    State.phase { holdingState 0x0080 1 with host := [.present 0x0100 2] } = .busy
      ∧ State.host { holdingState 0x0080 1 with host := [.present 0x0100 2] } = .present 0x0100 2 :: [] := ⟨rfl, rfl⟩

theorem witness_ResetDropsTheCommandInFlight :
    State.host { holdingState 0x0080 1 with host := [.reset, .take] } = .reset :: [.take]
      ∧ State.phase { holdingState 0x0080 1 with host := [.reset, .take] } = .busy := ⟨rfl, rfl⟩

theorem witness_HostTakesTheOldestResponse :
    State.host { State.reset with host := [.take], responses := [⟨1, .ok⟩, ⟨0, .illegal⟩] } = .take :: []
      ∧ State.responses { State.reset with host := [.take], responses := [⟨1, .ok⟩, ⟨0, .illegal⟩] }
          = ⟨1, .ok⟩ :: [⟨0, .illegal⟩]
      ∧ State.responses { State.reset with host := [.take] } = [] := ⟨rfl, rfl, rfl⟩

theorem witness_IdleEngineWaits : State.reset.phase = .idle ∧ State.reset.host = [] := ⟨rfl, rfl⟩

theorem witness_HiddenStateIsUnobservable :
    Indistinguishable (holdingState 0x0080 1) { holdingState 0x0080 1 with vy := 5, acc := 6, off := 7, drawn := 8 } :=
  ⟨rfl, rfl, rfl, fun _ => ⟨rfl, rfl⟩⟩

/-- Each case of the statement: an idle engine, a host that takes, a reset, and a busy engine that answers. -/
theorem witness_ResponsesComeFromTheHeldCommand :
    (∃ t, step State.reset = .next t) ∧ (∃ t, step { State.reset with host := [.take] } = .next t)
      ∧ (∃ t, step { State.reset with host := [.reset] } = .next t)
      ∧ ∃ t, step (holdingState 0x0080 1) = .next t := ⟨⟨_, rfl⟩, ⟨_, rfl⟩, ⟨_, rfl⟩, _, rfl⟩

/-- A busy engine with one response waiting, and an idle engine that is presented a command. -/
theorem witness_EveryStepKeepsTheAccount :
    Accounted [(0x0242, 1), (0x0080, 1)] { holdingState 0x0080 1 with responses := [masterRule 0x0242 1] }
      ∧ (∃ t, step { holdingState 0x0080 1 with responses := [masterRule 0x0242 1] } = .next t)
      ∧ Accounted [(0x0242, 1)]
          { State.reset with responses := [masterRule 0x0242 1], host := [.present 0x0100 2] }
      ∧ ∃ t, step { State.reset with responses := [masterRule 0x0242 1], host := [.present 0x0100 2] } = .next t :=
  ⟨⟨[(0x0242, 1)], rfl, rfl⟩, ⟨_, rfl⟩, rfl, _, rfl⟩

theorem witness_PresentedCommandsAreAnsweredInOrder :
    State.phase { State.reset with host := presented [(0x0180, 0xF0), (0x0000, 0x12)] } = .idle
      ∧ State.host { State.reset with host := presented [(0x0180, 0xF0), (0x0000, 0x12)] }
          = presented [(0x0180, 0xF0), (0x0000, 0x12)] := ⟨rfl, rfl⟩

end Sys2Proof.Tests
end

/-! ## The decoder and the legality test

A form is what the codes of a word spell; the test of R89 asks whether R87 lists that form. -/

namespace Sys2Proof

theorem Width.bits_eq (W : Width) : W.bits = 8 * 2 ^ W.code := by cases W <;> rfl

theorem Width.eight_dvd_bits (W : Width) : 8 ∣ W.bits := ⟨_, W.bits_eq⟩

theorem Width.bits_pos (W : Width) : 0 < W.bits := by cases W <;> decide

theorem Width.bits_le (W : Width) : W.bits ≤ 128 := by cases W <;> decide

theorem Datapath.ofCodes_eq_ok_iff (strat var : Nat) (p : Datapath) :
    Datapath.ofCodes strat var = .ok p ↔ p.strat = strat ∧ p.var = var := by
  constructor
  · intro h
    unfold Datapath.ofCodes at h
    split at h <;> cases h <;> exact ⟨rfl, rfl⟩
  · rintro ⟨rfl, rfl⟩
    cases p <;> rfl

theorem Kind.ofCode_eq_ok_iff (n : Nat) (k : Kind) : Kind.ofCode n = .ok k ↔ k.code = n := by
  constructor
  · intro h
    unfold Kind.ofCode at h
    split at h <;> cases h <;> rfl
  · rintro rfl
    cases k <;> rfl

theorem Width.ofCode_eq_ok_iff (n : Nat) (W : Width) : Width.ofCode n = .ok W ↔ W.code = n := by
  constructor
  · intro h
    unfold Width.ofCode at h
    split at h <;> cases h <;> rfl
  · rintro rfl
    cases W <;> rfl

theorem Datapath.exists_of_codes {strat var : Nat} (hs : [1, 2, 3, 4].contains strat = true)
    (h0 : (!([1, 2, 3].contains strat) || var == 0) = true)
    (h4 : (strat != 4 || [0, 1, 2].contains var) = true) :
    ∃ p : Datapath, p.strat = strat ∧ p.var = var := by
  have hs : strat = 1 ∨ strat = 2 ∨ strat = 3 ∨ strat = 4 := by simpa using hs
  obtain rfl | rfl | rfl | rfl := hs
  · exact ⟨.bc, rfl, (by simpa using h0 : var = 0).symm⟩
  · exact ⟨.vec, rfl, (by simpa using h0 : var = 0).symm⟩
  · exact ⟨.lut, rfl, (by simpa using h0 : var = 0).symm⟩
  · have hv : var = 0 ∨ var = 1 ∨ var = 2 := by simpa using h4
    obtain rfl | rfl | rfl := hv
    · exact ⟨.iterA, rfl, rfl⟩
    · exact ⟨.iterB, rfl, rfl⟩
    · exact ⟨.iterN, rfl, rfl⟩

theorem Kind.exists_of_code {n : Nat} (h : [0, 1, 2].contains n = true) : ∃ k : Kind, k.code = n := by
  have hn : n = 0 ∨ n = 1 ∨ n = 2 := by simpa using h
  obtain rfl | rfl | rfl := hn
  · exact ⟨.u, rfl⟩
  · exact ⟨.s, rfl⟩
  · exact ⟨.f, rfl⟩

theorem Width.exists_of_code {n : Nat} (h : [0, 1, 2, 3, 4].contains n = true) :
    ∃ W : Width, W.code = n := by
  have hn : n = 0 ∨ n = 1 ∨ n = 2 ∨ n = 3 ∨ n = 4 := by simpa using h
  obtain rfl | rfl | rfl | rfl | rfl := hn
  · exact ⟨.w8, rfl⟩
  · exact ⟨.w16, rfl⟩
  · exact ⟨.w32, rfl⟩
  · exact ⟨.w64, rfl⟩
  · exact ⟨.w128, rfl⟩

/-- The fields of `c` are the codes of `f`, with `ZERO` = 0 (R81 to R85). -/
def Spells (c : CmdWord) (f : Form) : Prop :=
  (fieldsOf c).zero = 0 ∧ f.path.strat = (fieldsOf c).strat.toNat ∧ f.path.var = (fieldsOf c).var.toNat
    ∧ f.kind.code = (fieldsOf c).kind.toNat ∧ f.width.code = (fieldsOf c).wsel.toNat

theorem formOf_eq_ok_iff (c : CmdWord) (f : Form) : formOf c = .ok f ↔ Spells c f := by
  constructor
  · intro h
    simp only [formOf] at h
    split at h
    · cases h
    next hz =>
      split at h
      · cases h
      next p hp =>
        split at h
        · cases h
        next k hk =>
          split at h
          · cases h
          next W hW =>
            cases h
            obtain ⟨hs, hv⟩ := (Datapath.ofCodes_eq_ok_iff _ _ _).1 hp
            exact ⟨by simpa using hz, hs, hv, (Kind.ofCode_eq_ok_iff _ _).1 hk,
              (Width.ofCode_eq_ok_iff _ _).1 hW⟩
  · rintro ⟨hz, hs, hv, hk, hW⟩
    have hp := (Datapath.ofCodes_eq_ok_iff _ _ _).2 ⟨hs, hv⟩
    simp [formOf, hz, hp, (Kind.ofCode_eq_ok_iff _ _).2 hk, (Width.ofCode_eq_ok_iff _ _).2 hW]

theorem Spells.selectedWidth_eq {c : CmdWord} {f : Form} (h : Spells c f) :
    selectedWidth c = f.width.bits := by
  obtain ⟨-, -, -, -, hW⟩ := h
  rw [selectedWidth, f.width.bits_eq, hW]

/-- The legality test of R89 on the codes of a form is the table of R87. -/
theorem Spells.legalWith_eq {c : CmdWord} {f : Form} (h : Spells c f) (floatWidths : List Nat) :
    legalWith floatWidths c = f.wellFormedWith floatWidths := by
  obtain ⟨hz, hs, hv, hk, hW⟩ := h
  have path_assigned : ([1, 2, 3, 4].contains f.path.strat
      && (!([1, 2, 3].contains f.path.strat) || f.path.var == 0)
      && (f.path.strat != 4 || [0, 1, 2].contains f.path.var)) = true := by cases f.path <;> rfl
  have kind_assigned : [0, 1, 2].contains f.kind.code = true := by cases f.kind <;> rfl
  have width_assigned : [0, 1, 2, 3, 4].contains f.width.code = true := by cases f.width <;> rfl
  have width_admitted : (!(f.path.strat == 4 && f.path.var == 2) || f.width.code == 2)
      = f.path.admitsWidth f.width := by cases f.path <;> cases f.width <;> rfl
  have kind_admitted : (!([2, 4].contains f.path.strat) || f.kind.code == 0)
      = f.path.admitsKind f.kind := by cases f.path <;> cases f.kind <;> rfl
  have float_admitted : (f.kind.code != 2 || floatWidths.contains (8 * 2 ^ f.width.code))
      = f.floatAdmitted floatWidths := by
    rw [← f.width.bits_eq, Form.floatAdmitted]
    cases f.kind <;> rfl
  simp only [Bool.and_eq_true] at path_assigned
  obtain ⟨⟨strat_ok, var_zero⟩, var_iter⟩ := path_assigned
  simp only [legalWith, hz, ← hs, ← hv, ← hk, ← hW, strat_ok, var_zero, var_iter, kind_assigned,
    width_assigned, width_admitted, kind_admitted, float_admitted, Form.wellFormedWith]
  cases f.path.admitsKind f.kind <;> cases f.path.admitsWidth f.width <;> rfl

/-- A legal word spells a form: each of its fields holds an assigned code. -/
theorem exists_spells_of_legalWith {floatWidths : List Nat} {c : CmdWord}
    (h : legalWith floatWidths c = true) : ∃ f, Spells c f := by
  simp only [legalWith, Bool.and_eq_true] at h
  obtain ⟨⟨⟨⟨⟨⟨⟨⟨hz, hs⟩, hW⟩, hk⟩, hv0⟩, hv4⟩, -⟩, -⟩, -⟩ := h
  obtain ⟨p, hp, hpv⟩ := Datapath.exists_of_codes hs hv0 hv4
  obtain ⟨k, hk⟩ := Kind.exists_of_code hk
  obtain ⟨W, hW⟩ := Width.exists_of_code hW
  exact ⟨⟨p, k, W⟩, by simpa [BitVec.toNat_eq] using hz, hp, hpv, hk, hW⟩

/-- Every form that R87 lists has a command on the form's own datapath and width. The kind is the form's own
but for the two F8 forms (log entry 1). -/
theorem Form.instr?_of_wellFormedWith {floatWidths : List Nat} {f : Form}
    (h : f.wellFormedWith floatWidths = true) :
    ∃ i, f.instr? = some i ∧ i.form.path = f.path ∧ i.form.width = f.width := by
  obtain ⟨p, k, W⟩ := f
  simp only [Form.wellFormedWith, Bool.and_eq_true] at h
  obtain ⟨⟨hk, hW⟩, -⟩ := h
  cases p <;> cases k <;> cases hk <;> cases W <;> cases hW <;> exact ⟨_, rfl, rfl, rfl⟩

/-- A legal word decodes to a command of the width that it selects (R85, R89). -/
theorem decodeWith_of_legalWith {floatWidths : List Nat} {c : CmdWord}
    (h : legalWith floatWidths c = true) :
    ∃ i, decodeWith floatWidths c = .instr i ∧ i.form.width.bits = selectedWidth c := by
  obtain ⟨f, hf⟩ := exists_spells_of_legalWith h
  rw [hf.legalWith_eq] at h
  obtain ⟨i, hi, -, hW⟩ := Form.instr?_of_wellFormedWith h
  refine ⟨i, ?_, by rw [hW, hf.selectedWidth_eq]⟩
  simp [decodeWith, (formOf_eq_ok_iff c f).2 hf, Form.decodeWith, h, hi]

theorem decodeWith_of_not_legalWith {floatWidths : List Nat} {c : CmdWord}
    (h : legalWith floatWidths c = false) : ∃ why, decodeWith floatWidths c = .illegal why := by
  cases hf : formOf c with
  | error r => exact ⟨r, by simp [decodeWith, hf]⟩
  | ok f =>
    rw [((formOf_eq_ok_iff c f).1 hf).legalWith_eq] at h
    exact ⟨f.reject, by simp [decodeWith, hf, Form.decodeWith, h]⟩

/-- `FLOAT_WIDTHS` is consulted for a word of kind F alone (R87). -/
theorem decodeWith_eq_of_kind_ne_float {c : CmdWord} (h : (fieldsOf c).kind.toNat ≠ 2)
    (floatWidths floatWidths' : List Nat) : decodeWith floatWidths c = decodeWith floatWidths' c := by
  cases hf : formOf c with
  | error r => simp [decodeWith, hf]
  | ok f =>
    obtain ⟨-, -, -, hk, -⟩ := (formOf_eq_ok_iff c f).1 hf
    have not_float : f.kind ≠ .f := fun float => h (by rw [← hk, float]; rfl)
    have admitted (fw : List Nat) : f.floatAdmitted fw = true := by simp [Form.floatAdmitted, not_float]
    simp [decodeWith, hf, Form.decodeWith, Form.wellFormedWith, admitted]

end Sys2Proof

/-! ## The byte-oriented datapaths compute `rev_W`

One argument serves the byte composition and the lookup table: mirroring every byte after the byte-sequence
reversal is `rev_W` (40_common_execution.md R122). The vectorized steps mirror every byte too. -/

namespace Sys2Proof.Machine

open Sys2Proof

theorem eight_mul_byteCount {w : Nat} (hw : 8 ∣ w) : 8 * byteCount w = w := Nat.mul_div_cancel' hw

/-- The Byte Reverser mirrors its byte (R119). -/
theorem brev8_eq_rev : ∀ b : Byte, brev8 b = rev b := by decide +kernel

/-- Each entry of `BTAB` mirrors its index (R55). -/
theorem btab_eq_rev : ∀ b : Byte, btab b = rev b := by decide +kernel

/-- Each entry of `NTAB` mirrors its index (R55). -/
theorem ntab_eq_rev : ∀ i : Nibble, ntab i = rev i := by decide +kernel

/-- A value in which each byte of the byte-reversed operand stands mirrored is the operand reversed (R122). -/
theorem eq_rev_of_mirrored_bswap {w : Nat} (hw : 8 ∣ w) (x y : BitVec w)
    (h : ∀ i, y.getLsbD i = (decide (i < w) && (bswap x).getLsbD (8 * (i / 8) + (7 - i % 8)))) :
    y = rev x := by
  apply BitVec.eq_of_getLsbD_eq
  intro i hi
  have hn := eight_mul_byteCount hw
  have inside : 8 * (i / 8) + (7 - i % 8) < w := by omega
  have lane_eq : (8 * (i / 8) + (7 - i % 8)) / 8 = i / 8 := by omega
  have bit_eq : (8 * (i / 8) + (7 - i % 8)) % 8 = 7 - i % 8 := by omega
  have place : 8 * (byteCount w - 1 - i / 8) + (7 - i % 8) = w - 1 - i := by omega
  rw [h, bswap_getLsbD hw, rev_getLsbD, lane_eq, bit_eq, place]
  simp [inside]

/-- Mirroring every lane, bit by bit. -/
theorem mapLanes_mirror_getLsbD {w : Nat} (hw : 8 ∣ w) {f : Byte → Byte} (hf : ∀ b, f b = rev b)
    (v : BitVec w) (i : Nat) :
    (mapLanes f v).getLsbD i = (decide (i < w) && v.getLsbD (8 * (i / 8) + (7 - i % 8))) := by
  have in_byte : i % 8 < 8 := Nat.mod_lt _ (by decide)
  have mirrored : 7 - i % 8 < 8 := by omega
  rw [mapLanes_getLsbD hw, hf, rev_getLsbD, lane_getLsbD]
  simp [in_byte, mirrored]

theorem mapLanes_bswap_eq_rev {w : Nat} (hw : 8 ∣ w) {f : Byte → Byte} (hf : ∀ b, f b = rev b)
    (x : BitVec w) : mapLanes f (bswap x) = rev x :=
  eq_rev_of_mirrored_bswap hw x _ (mapLanes_mirror_getLsbD hw hf (bswap x))

theorem bcRev_eq_rev {w : Nat} (hw : 8 ∣ w) (x : BitVec w) : bcRev x = rev x :=
  mapLanes_bswap_eq_rev hw brev8_eq_rev x

theorem lutRev_eq_rev {w : Nat} (hw : 8 ∣ w) (x : BitVec w) : lutRev x = rev x :=
  mapLanes_bswap_eq_rev hw btab_eq_rev x

/-- A bit of an OR-reduction is set where one of the terms has it set. -/
theorem foldl_or_getLsbD {w : Nat} (f : Nat → BitVec w) (ks : List Nat) (r : BitVec w) (i : Nat) :
    (ks.foldl (fun r k => r ||| f k) r).getLsbD i
      = (r.getLsbD i || ks.any fun k => (f k).getLsbD i) := by
  induction ks generalizing r with
  | nil => simp
  | cons k ks ih => simp [ih, Bool.or_assoc]

/-- The byte 2^k in every lane keeps bit k of every byte (R170). -/
theorem vecMask_getLsbD {w : Nat} (hw : 8 ∣ w) (k i : Nat) :
    (vecMask w k).getLsbD i = (decide (i < w) && decide (i % 8 = k)) := by
  have in_byte : i % 8 < 8 := Nat.mod_lt _ (by decide)
  rw [vecMask, bcast_getLsbD hw, BitVec.getLsbD_shiftLeft, BitVec.getLsbD_one]
  congr 1
  rw [Bool.eq_iff_iff]
  simp
  omega

/-- A masked lane holds bit k of the lane and nothing else. -/
theorem lane_and_vecMask_getLsbD {w : Nat} (hw : 8 ∣ w) (v : BitVec w) (k j t : Nat) :
    (lane (v &&& vecMask w k) j).getLsbD t = (decide (t < 8) && decide (t = k) && v.getLsbD (8 * j + k)) := by
  rw [lane_getLsbD, BitVec.getLsbD_and, vecMask_getLsbD hw]
  by_cases ht : t < 8
  · have bit_eq : (8 * j + t) % 8 = t := by omega
    by_cases hk : t = k
    · subst hk
      by_cases hv : 8 * j + t < w
      · simp [ht, bit_eq, hv]
      · simp [BitVec.getLsbD_of_ge v (8 * j + t) (by omega)]
    · simp [bit_eq, hk]
  · simp [ht]

/-- The term s_k has bit k of every byte at place 7−k of its byte, and nothing else (R170). -/
theorem vecTerm_getLsbD {w : Nat} (hw : 8 ∣ w) (v : BitVec w) {k : Nat} (hk : k < 8) (i : Nat) :
    (vecTerm v k).getLsbD i
      = (decide (i < w) && decide (i % 8 = 7 - k) && v.getLsbD (8 * (i / 8) + k)) := by
  have in_byte : i % 8 < 8 := Nat.mod_lt _ (by decide)
  unfold vecTerm
  split
  next hlow =>
    have place : (i % 8 < 8 ∧ ¬ i % 8 < 7 - 2 * k ∧ i % 8 - (7 - 2 * k) < 8 ∧ i % 8 - (7 - 2 * k) = k)
        ↔ i % 8 = 7 - k := by omega
    rw [lsl8, mapLanes_getLsbD hw, BitVec.getLsbD_shiftLeft, lane_and_vecMask_getLsbD hw]
    simp only [← place, Bool.decide_and, decide_not, Bool.and_assoc]
  next hhigh =>
    have place : (2 * k - 7 + i % 8 < 8 ∧ 2 * k - 7 + i % 8 = k) ↔ i % 8 = 7 - k := by omega
    rw [lsr8, mapLanes_getLsbD hw, BitVec.getLsbD_ushiftRight, lane_and_vecMask_getLsbD hw]
    simp only [← place, Bool.decide_and, Bool.and_assoc]

/-- The eight steps of R170 mirror every byte: bit t of a byte comes from the term k = 7−t alone. -/
theorem vecSteps_getLsbD {w : Nat} (hw : 8 ∣ w) (v : BitVec w) (i : Nat) :
    (vecSteps v).getLsbD i = (decide (i < w) && v.getLsbD (8 * (i / 8) + (7 - i % 8))) := by
  rw [vecSteps, foldl_or_getLsbD, Bool.eq_iff_iff]
  simp only [BitVec.ofNat_eq_ofNat, BitVec.getLsbD_zero, Bool.false_or, List.any_eq_true, List.mem_range,
    Bool.and_eq_true, decide_eq_true_eq]
  constructor
  · rintro ⟨k, hk, hbit⟩
    rw [vecTerm_getLsbD hw v hk] at hbit
    simp only [Bool.and_eq_true, decide_eq_true_eq] at hbit
    obtain ⟨⟨hi, ht⟩, hv⟩ := hbit
    have source : 7 - i % 8 = k := by omega
    exact ⟨hi, by rwa [source]⟩
  · rintro ⟨hi, hv⟩
    have hk : 7 - i % 8 < 8 := by omega
    have target : i % 8 = 7 - (7 - i % 8) := by omega
    refine ⟨7 - i % 8, hk, ?_⟩
    rw [vecTerm_getLsbD hw v hk]
    simp [hi, hv, ← target]

theorem laneGroup_getLsbD {w : Nat} (hw : 8 ∣ w) (lanesPerPass p : Nat) (v : BitVec w) (i : Nat) :
    (laneGroup lanesPerPass p v).getLsbD i
      = (decide (i / 8 / lanesPerPass = p) && v.getLsbD i) := by
  have in_byte : i % 8 < 8 := Nat.mod_lt _ (by decide)
  have whole : 8 * (i / 8) + i % 8 = i := by omega
  rw [laneGroup, lanes_getLsbD hw]
  by_cases hi : i < w
  · split
    next hp => rw [lane_getLsbD, whole]; simp [hi, in_byte, hp]
    next hp => simp [hp]
  · simp [hi, BitVec.getLsbD_of_ge v i (by omega)]

/-- The passes over groups of lanes give what one pass over all lanes gives (R171). -/
theorem vecPasses_eq_vecSteps {w : Nat} (hw : 8 ∣ w) {lanesPerPass : Nat} (hl : 0 < lanesPerPass)
    (v : BitVec w) : vecPasses lanesPerPass v = vecSteps v := by
  apply BitVec.eq_of_getLsbD_eq
  intro i hi
  have lane_lt : i / 8 < byteCount w := by have := eight_mul_byteCount hw; omega
  have same_lane : (8 * (i / 8) + (7 - i % 8)) / 8 = i / 8 := by omega
  have pass_lt : i / 8 / lanesPerPass < (byteCount w + lanesPerPass - 1) / lanesPerPass := by
    calc i / 8 / lanesPerPass < (i / 8 + lanesPerPass) / lanesPerPass := by
          rw [Nat.add_div_right _ hl]; exact Nat.lt_succ_self _
      _ ≤ _ := Nat.div_le_div_right (by omega)
  rw [vecPasses, foldl_or_getLsbD, Bool.eq_iff_iff]
  simp only [vecSteps_getLsbD hw, laneGroup_getLsbD hw, same_lane, BitVec.ofNat_eq_ofNat,
    BitVec.getLsbD_zero, Bool.false_or, List.any_eq_true, List.mem_range, Bool.and_eq_true,
    decide_eq_true_eq]
  constructor
  · rintro ⟨p, -, hi, -, hv⟩
    exact ⟨hi, hv⟩
  · rintro ⟨hi, hv⟩
    exact ⟨_, pass_lt, hi, rfl, hv⟩

theorem vecRevWith_eq_rev {w : Nat} (hw : 8 ∣ w) {lanesPerPass : Nat} (hl : 0 < lanesPerPass)
    (x : BitVec w) : vecRevWith lanesPerPass x = rev x := by
  rw [vecRevWith, vecPasses_eq_vecSteps hw hl]
  exact eq_rev_of_mirrored_bswap hw x _ (vecSteps_getLsbD hw (bswap x))

theorem vecRev_eq_rev {w : Nat} (hw : 8 ∣ w) (x : BitVec w) : vecRev x = rev x :=
  vecRevWith_eq_rev hw (by decide) x

end Sys2Proof.Machine

/-! ## The loops of the shift-accumulate barrel compute `rev_W`

For each shape: the loop is so many iterations of its body (R222, R225, R226), the registers after i iterations,
and the accumulator at the end. -/

namespace Sys2Proof.Machine

open Sys2Proof

/-! ### Shape (a) -/

theorem itaLoop_eq_iterate {w : Nat} (hw : w < 256) (n fuel : Nat) (r : CountedBarrel w)
    (hn : r.cnt.toNat + n = w) (hf : n < fuel) : itaLoop fuel r = itaBody^[n] r := by
  induction n generalizing r fuel with
  | zero =>
    obtain ⟨fuel, rfl⟩ := Nat.exists_eq_succ_of_ne_zero (Nat.ne_of_gt hf)
    have done : r.cnt = BitVec.ofNat 8 w := by bv_omega
    simp [itaLoop, done]
  | succ n ih =>
    obtain ⟨fuel, rfl⟩ := Nat.exists_eq_succ_of_ne_zero (Nat.ne_of_gt (Nat.zero_lt_of_lt hf))
    have going : r.cnt ≠ BitVec.ofNat 8 w := by bv_omega
    have counted : (itaBody r).cnt.toNat + n = w := by
      show (r.cnt + 1).toNat + n = w
      bv_omega
    rw [Function.iterate_succ_apply, ← ih fuel (itaBody r) counted (by omega)]
    simp [itaLoop, going]

theorem iterate_itaBody_cnt {w : Nat} (x : BitVec w) (i : Nat) :
    (itaBody^[i] (countedStart x)).cnt = BitVec.ofNat 8 i := by
  induction i with
  | zero => rfl
  | succ i ih =>
    rw [Function.iterate_succ_apply']
    simp [itaBody, ih, BitVec.ofNat_add]

theorem iterate_itaBody_src {w : Nat} (x : BitVec w) (i : Nat) : (itaBody^[i] (countedStart x)).src = x >>> i := by
  induction i with
  | zero => simp [countedStart]
  | succ i ih =>
    rw [Function.iterate_succ_apply']
    simp [itaBody, ih, BitVec.shiftRight_add]

theorem itaBody_acc_getLsbD {w : Nat} (r : CountedBarrel w) (k : Nat) :
    (itaBody r).acc.getLsbD k
      = (decide (k < w) && if k = 0 then r.src.getLsbD 0 else r.acc.getLsbD (k - 1)) := by
  cases k <;> simp [itaBody, lowestBit_getLsbD]

/-- After i iterations of shape (a) the accumulator holds the i lowest bits of the operand, mirrored (R222). -/
theorem iterate_itaBody_acc_getLsbD {w : Nat} (x : BitVec w) {i : Nat} (hi : i ≤ w) (k : Nat) :
    (itaBody^[i] (countedStart x)).acc.getLsbD k = (decide (k < i) && x.getLsbD (i - 1 - k)) := by
  induction i generalizing k with
  | zero => simp [countedStart]
  | succ i ih =>
    rw [Function.iterate_succ_apply', itaBody_acc_getLsbD, iterate_itaBody_src]
    cases k with
    | zero =>
      have : 0 < w := by omega
      simp [this]
    | succ k =>
      have same_bit : i - (k + 1) = i - 1 - k := by omega
      by_cases hk : k < i
      · have inside : k + 1 < w := by omega
        simp [ih (by omega), hk, inside, same_bit]
      · simp [ih (by omega), hk]

theorem itaFinal_eq_iterate {w : Nat} (hw : w < 256) (x : BitVec w) :
    itaFinal x = itaBody^[w] (countedStart x) :=
  itaLoop_eq_iterate hw w (w + 1) _ (Nat.zero_add w) (Nat.lt_succ_self w)

theorem itaFinal_acc {w : Nat} (hw : w < 256) (x : BitVec w) : (itaFinal x).acc = rev x := by
  apply BitVec.eq_of_getLsbD_eq
  intro k hk
  rw [itaFinal_eq_iterate hw, iterate_itaBody_acc_getLsbD x le_rfl, rev_getLsbD]

/-! ### Shape (b) -/

theorem itbLoop_eq_iterate {w : Nat} (n fuel : Nat) (r : OffsetBarrel w)
    (going : ∀ i, i < n → (itbBody^[i] r).src ≠ 0) (done : (itbBody^[n] r).src = 0) (hf : n < fuel) :
    itbLoop fuel r = itbBody^[n] r := by
  induction n generalizing r fuel with
  | zero =>
    obtain ⟨fuel, rfl⟩ := Nat.exists_eq_succ_of_ne_zero (Nat.ne_of_gt hf)
    have h0 : r.src = 0 := done
    simp [itbLoop, h0]
  | succ n ih =>
    obtain ⟨fuel, rfl⟩ := Nat.exists_eq_succ_of_ne_zero (Nat.ne_of_gt (Nat.zero_lt_of_lt hf))
    have h0 : r.src ≠ 0 := going 0 (by omega)
    rw [Function.iterate_succ_apply,
      ← ih fuel (itbBody r) (fun i hi => going (i + 1) (by omega)) done (by omega), itbLoop, if_neg h0]

theorem iterate_itbBody_src {w : Nat} (x : BitVec w) (i : Nat) : (itbBody^[i] (offsetStart x)).src = x >>> i := by
  induction i with
  | zero => simp [offsetStart]
  | succ i ih =>
    rw [Function.iterate_succ_apply']
    simp [itbBody, ih, BitVec.shiftRight_add]

theorem iterate_itbBody_off {w : Nat} (x : BitVec w) (i : Nat) :
    (itbBody^[i] (offsetStart x)).off = BitVec.ofNat 8 (w - 1) - BitVec.ofNat 8 i := by
  induction i with
  | zero => simp [offsetStart]
  | succ i ih =>
    rw [Function.iterate_succ_apply']
    rw [itbBody, ih]
    bv_omega

/-- The offset that iteration i uses (R225). -/
theorem iterate_itbBody_off_toNat {w : Nat} (hw : w ≤ 256) (x : BitVec w) {i : Nat} (hi : i < w) :
    (itbBody^[i] (offsetStart x)).off.toNat = w - 1 - i := by
  rw [iterate_itbBody_off]
  bv_omega

/-- After i iterations of shape (b) the i lowest bits of the operand stand mirrored at the top of the
accumulator (R225). -/
theorem iterate_itbBody_acc_getLsbD {w : Nat} (hw : w ≤ 256) (x : BitVec w) {i : Nat} (hi : i ≤ w) {k : Nat}
    (hk : k < w) :
    (itbBody^[i] (offsetStart x)).acc.getLsbD k
      = (decide (w - 1 - k < i) && x.getLsbD (w - 1 - k)) := by
  induction i with
  | zero => simp [offsetStart]
  | succ i ih =>
    rw [Function.iterate_succ_apply']
    simp only [itbBody, BitVec.getLsbD_or, BitVec.getLsbD_shiftLeft, lowestBit_getLsbD, iterate_itbBody_src,
      BitVec.getLsbD_ushiftRight, iterate_itbBody_off_toNat hw x (show i < w by omega), ih (by omega)]
    obtain hlt | heq | hgt := Nat.lt_trichotomy (w - 1 - k) i
    · have above : k - (w - 1 - i) ≠ 0 := by omega
      have old : w - 1 - k < i + 1 := by omega
      simp [hlt, above, old]
    · have here : k - (w - 1 - i) = 0 := by omega
      have reached : ¬ k < w - 1 - i := by omega
      have pos : 0 < w := by omega
      simp [heq, here, reached, pos, hk]
    · have below : k < w - 1 - i := by omega
      have later : ¬ w - 1 - k < i + 1 := by omega
      have not_old : ¬ w - 1 - k < i := by omega
      simp [below, later, not_old]

theorem shiftRight_eq_zero_iff {w : Nat} (x : BitVec w) (i : Nat) : x >>> i = 0 ↔ bitLength x ≤ i := by
  have vanishes : x >>> i = 0 ↔ x.toNat < 2 ^ i := by
    rw [BitVec.toNat_eq, BitVec.toNat_ushiftRight, Nat.shiftRight_eq_div_pow]
    simp [Nat.div_eq_zero_iff]
  rw [vanishes, bitLength]
  split
  next h0 => simp [h0]
  next h0 =>
    have pos : x.toNat ≠ 0 := fun h => h0 (BitVec.eq_of_toNat_eq (by simpa using h))
    rw [← Nat.log2_lt pos]
    exact Iff.rfl

theorem bitLength_le {w : Nat} (x : BitVec w) : bitLength x ≤ w :=
  (shiftRight_eq_zero_iff x w).1 (BitVec.ushiftRight_eq_zero le_rfl)

/-- Shape (b) makes exactly `L(x)` iterations (R225). -/
theorem itbFinal_eq_iterate {w : Nat} (x : BitVec w) :
    itbFinal x = itbBody^[bitLength x] (offsetStart x) := by
  apply itbLoop_eq_iterate
  · intro i hi
    rw [iterate_itbBody_src, Ne, shiftRight_eq_zero_iff]
    omega
  · rw [iterate_itbBody_src, shiftRight_eq_zero_iff]
  · have := bitLength_le x
    omega

theorem getLsbD_of_bitLength_le {w : Nat} (x : BitVec w) {k : Nat} (hk : bitLength x ≤ k) :
    x.getLsbD k = false := by
  have gone : (x >>> k).getLsbD 0 = false := by rw [(shiftRight_eq_zero_iff x k).2 hk]; simp
  simpa using gone

theorem itbFinal_acc {w : Nat} (hw : w ≤ 256) (x : BitVec w) : (itbFinal x).acc = rev x := by
  apply BitVec.eq_of_getLsbD_eq
  intro k hk
  rw [itbFinal_eq_iterate, iterate_itbBody_acc_getLsbD hw x (bitLength_le x) hk, rev_getLsbD]
  by_cases hL : w - 1 - k < bitLength x
  · simp [hL, hk]
  · simp [getLsbD_of_bitLength_le x (Nat.le_of_not_lt hL)]

/-! ### The nibble variant -/

theorem itnLoop_eq_iterate (n fuel : Nat) (r : CountedBarrel 32) (hn : r.cnt.toNat + n = 8)
    (hf : n < fuel) : itnLoop fuel r = itnBody^[n] r := by
  induction n generalizing r fuel with
  | zero =>
    obtain ⟨fuel, rfl⟩ := Nat.exists_eq_succ_of_ne_zero (Nat.ne_of_gt hf)
    have done : r.cnt = 8 := by bv_omega
    simp [itnLoop, done]
  | succ n ih =>
    obtain ⟨fuel, rfl⟩ := Nat.exists_eq_succ_of_ne_zero (Nat.ne_of_gt (Nat.zero_lt_of_lt hf))
    have going : r.cnt ≠ 8 := by bv_omega
    have counted : (itnBody r).cnt.toNat + n = 8 := by
      show (r.cnt + 1).toNat + n = 8
      bv_omega
    rw [Function.iterate_succ_apply, ← ih fuel (itnBody r) counted (by omega), itnLoop, if_neg going]

theorem itnFinal_eq_iterate (x : BitVec 32) : itnFinal x = itnBody^[8] (countedStart x) :=
  itnLoop_eq_iterate 8 9 _ rfl (by decide)

theorem iterate_itnBody_cnt (x : BitVec 32) (i : Nat) : (itnBody^[i] (countedStart x)).cnt = BitVec.ofNat 8 i := by
  induction i with
  | zero => rfl
  | succ i ih =>
    rw [Function.iterate_succ_apply']
    simp [itnBody, ih, BitVec.ofNat_add]

theorem iterate_itnBody_src (x : BitVec 32) (i : Nat) : (itnBody^[i] (countedStart x)).src = x := by
  induction i with
  | zero => rfl
  | succ i ih => rw [Function.iterate_succ_apply', itnBody, ih]

/-- Iteration i of the nibble variant reads nibble i of the operand (R226). -/
theorem itnNibble_iterate_itnBody (x : BitVec 32) {i : Nat} (hi : i < 8) :
    itnNibble (itnBody^[i] (countedStart x)) = x.extractLsb' (4 * i) 4 := by
  have cnt_eq : (itnBody^[i] (countedStart x)).cnt.toNat = i := by rw [iterate_itnBody_cnt]; bv_omega
  rw [itnNibble, cnt_eq, iterate_itnBody_src]
  apply BitVec.eq_of_getLsbD_eq
  intro t ht
  simp

/-- After i iterations of the nibble variant the 4i top bits of the accumulator are those of the mirrored
operand and the others are 0 (R226). -/
theorem iterate_itnBody_acc_getLsbD (x : BitVec 32) {i : Nat} (hi : i ≤ 8) {k : Nat} (hk : k < 32) :
    (itnBody^[i] (countedStart x)).acc.getLsbD k = (decide (31 - k < 4 * i) && x.getLsbD (31 - k)) := by
  induction i with
  | zero => simp [countedStart]
  | succ i ih =>
    have cnt_eq : (itnBody^[i] (countedStart x)).cnt.toNat = i := by rw [iterate_itnBody_cnt]; bv_omega
    rw [Function.iterate_succ_apply']
    simp only [itnBody, itnNibble_iterate_itnBody x (show i < 8 by omega), cnt_eq, ntab_eq_rev, BitVec.getLsbD_or,
      BitVec.getLsbD_shiftLeft, BitVec.getLsbD_setWidth, rev_getLsbD, BitVec.getLsbD_extractLsb', ih (by omega)]
    by_cases hold : 31 - k < 4 * i
    · have above : ¬ k - (28 - 4 * i) < 4 := by omega
      have still : 31 - k < 4 * (i + 1) := by omega
      simp [hold, above, still]
    · by_cases hnow : 31 - k < 4 * (i + 1)
      · have reached : ¬ k < 28 - 4 * i := by omega
        have inside : k - (28 - 4 * i) < 4 := by omega
        have inside' : k - (28 - 4 * i) < 32 := by omega
        have source : 4 * i + (4 - 1 - (k - (28 - 4 * i))) = 31 - k := by omega
        have mirrored : 4 - 1 - (k - (28 - 4 * i)) < 4 := by omega
        simp only [source]
        simp [hold, hnow, reached, inside, inside', mirrored, hk]
      · have below : k < 28 - 4 * i := by omega
        simp [hold, hnow, below]

theorem itnFinal_acc (x : BitVec 32) : (itnFinal x).acc = rev x := by
  apply BitVec.eq_of_getLsbD_eq
  intro k hk
  rw [itnFinal_eq_iterate, iterate_itnBody_acc_getLsbD x le_rfl hk, rev_getLsbD]
  have : 31 - k < 4 * 8 := by omega
  simp [this, hk]

end Sys2Proof.Machine

/-! ## The engine answers the master rule

Each datapath answers `rev_W` of its operand, so every command answers the master rule of its width (R114), for
any `FLOAT_WIDTHS`. -/

namespace Sys2Proof.Machine

open Sys2Proof

/-- The command completes at `s` and answers `rev_W` of the operand with status OK (R112, R114). -/
def AnswersRev (w : Nat) (s : State) (a : Answer) : Prop :=
  ∃ t, a = .next t ∧ Answered ⟨(rev (s.opndQ.setWidth w)).setWidth 128, .ok⟩ s t

/-- A datapath that touches its own registers only and responds with `rev_W` of the operand answers so. -/
theorem answersRev_of_respondOk {w : Nat} {s s' : State} {y : BitVec w} (hy : y = rev (s.operand w))
    (hr : s'.responses = s.responses) (hc : s'.cmdQ = s.cmdQ) (ho : s'.opndQ = s.opndQ)
    (hh : s'.host = s.host) : AnswersRev w s (.next (s'.respondOk y)) := by
  subst hy
  exact ⟨_, rfl, rfl, by rw [State.respondOk_responses, hr]; rfl, hc, ho, hh⟩

theorem runBc_answersRev {w : Nat} (hw : 8 ∣ w) (s : State) : AnswersRev w s (runBc w s) :=
  answersRev_of_respondOk (bcRev_eq_rev hw _) rfl rfl rfl rfl

theorem runVec_answersRev {w : Nat} (hw : 8 ∣ w) (s : State) : AnswersRev w s (runVec w s) :=
  answersRev_of_respondOk (vecRev_eq_rev hw _) rfl rfl rfl rfl

theorem runLut_answersRev {w : Nat} (hw : 8 ∣ w) (s : State) : AnswersRev w s (runLut w s) :=
  answersRev_of_respondOk (lutRev_eq_rev hw _) rfl rfl rfl rfl

theorem runIterA_answersRev {w : Nat} (hw : w < 256) (s : State) : AnswersRev w s (runIterA w s) :=
  answersRev_of_respondOk (itaFinal_acc hw _) rfl rfl rfl rfl

theorem runIterB_answersRev {w : Nat} (hw : w ≤ 256) (s : State) : AnswersRev w s (runIterB w s) :=
  answersRev_of_respondOk (itbFinal_acc hw _) rfl rfl rfl rfl

theorem runIterN_answersRev (s : State) : AnswersRev 32 s (runIterN s) :=
  answersRev_of_respondOk (itnFinal_acc _) rfl rfl rfl rfl

/-- Every command answers `rev_W` of its operand (R116). -/
theorem exec_answersRev (i : Instr) (s : State) : AnswersRev i.form.width.bits s (exec i s) := by
  have bytes := i.form.width.eight_dvd_bits
  have counted : i.form.width.bits < 256 := Nat.lt_of_le_of_lt i.form.width.bits_le (by decide)
  rw [exec_by_path]
  cases hp : i.form.path with
  | bc => exact runBc_answersRev bytes s
  | vec => exact runVec_answersRev bytes s
  | lut => exact runLut_answersRev bytes s
  | iterA => exact runIterA_answersRev counted s
  | iterB => exact runIterB_answersRev counted.le s
  | iterN =>
    rw [form_width_of_iterN i hp]
    exact runIterN_answersRev s

/-- Decode, dispatch and respond give the response of the master rule (R112, R114). -/
theorem answerHeldWith_answered (floatWidths : List Nat) (s : State) :
    ∃ t, s.answerHeldWith floatWidths = .next t
      ∧ Answered (masterRuleWith floatWidths s.cmdQ s.opndQ) s t := by
  cases hl : legalWith floatWidths s.cmdQ with
  | true =>
    obtain ⟨i, hi, hW⟩ := decodeWith_of_legalWith hl
    rw [answerHeldWith_instr _ s i hi, masterRuleWith, if_pos hl, ← hW]
    exact exec_answersRev i s
  | false =>
    obtain ⟨why, hi⟩ := decodeWith_of_not_legalWith hl
    refine ⟨_, answerHeldWith_illegal _ s why hi, ?_⟩
    simp [Answered, masterRuleWith, hl]

theorem turn_answers_masterRuleWith (floatWidths : List Nat) {c : CmdWord} {o : BusWord} {s : State}
    (h : Holds c o s) :
    ∃ t, s.turn floatWidths = .next t ∧ Answered (masterRuleWith floatWidths c o) s t := by
  obtain ⟨busy, rfl, rfl, hm⟩ := h
  rw [turn_of_engineToMove floatWidths s busy hm]
  exact answerHeldWith_answered floatWidths s

/-! ### Where `FLOAT_WIDTHS` is consulted -/

/-- The engine's own move consults `FLOAT_WIDTHS` only for a held word of kind F. -/
theorem engineMove_eq_of_not_float {s : State}
    (h : s.phase = .idle ∨ (fieldsOf s.cmdQ).kind.toNat ≠ 2) (floatWidths floatWidths' : List Nat) :
    s.engineMove floatWidths = s.engineMove floatWidths' := by
  obtain idle | not_float := h
  · simp [State.engineMove, idle]
  · simp [State.engineMove, State.answerHeldWith,
      decodeWith_eq_of_kind_ne_float not_float floatWidths floatWidths']

/-- The moves of the host do not consult `FLOAT_WIDTHS` at all, so a step consults it no further. -/
theorem turn_eq_of_not_float {s : State}
    (h : s.phase = .idle ∨ (fieldsOf s.cmdQ).kind.toNat ≠ 2) (floatWidths floatWidths' : List Nat) :
    s.turn floatWidths = s.turn floatWidths' := by
  cases hh : s.host with
  | nil => simpa [State.turn, hh] using engineMove_eq_of_not_float h floatWidths floatWidths'
  | cons move rest =>
    cases move with
    | quiet =>
      have rest_move := engineMove_eq_of_not_float (s := { s with host := rest }) h floatWidths floatWidths'
      simpa [State.turn, hh] using rest_move
    | take => simp [State.turn, hh]
    | reset => simp [State.turn, hh]
    | present c o =>
      cases hp : s.phase with
      | idle => simp [State.turn, hh, hp]
      | busy => simpa [State.turn, hh, hp] using engineMove_eq_of_not_float h floatWidths floatWidths'

/-- Settles O48: the held command is answered by the master rule of the given set, because every datapath is
`rev_W` and decoding is the legality test; only the legality of a word of kind F reads the set. -/
theorem engineForAnyFloatWidths : Obligations.EngineForAnyFloatWidths := by
  refine ⟨rfl, fun floatWidths => ⟨fun c o s h => ?_, fun s h => ?_⟩⟩
  · exact turn_answers_masterRuleWith floatWidths h
  · exact turn_eq_of_not_float h floatWidths Config.floatWidths

end Sys2Proof.Machine

/-! ## The step by the host's next move

One equation for each move that the head of `host` can be (R110 to R112, 60_exceptions.md R285). -/

namespace Sys2Proof.Machine

open Sys2Proof

theorem engineMove_of_idle (floatWidths : List Nat) {s : State} (idle : s.phase = .idle) :
    s.engineMove floatWidths = .next s := by
  simp [State.engineMove, idle]

theorem engineMove_of_busy (floatWidths : List Nat) {s : State} (busy : s.phase = .busy) :
    s.engineMove floatWidths = s.answerHeldWith floatWidths := by
  simp [State.engineMove, busy]

theorem turn_of_nil (floatWidths : List Nat) {s : State} (hh : s.host = []) :
    s.turn floatWidths = s.engineMove floatWidths := by
  simp [State.turn, hh]

theorem turn_of_quiet (floatWidths : List Nat) {s : State} {rest : List HostMove}
    (hh : s.host = .quiet :: rest) :
    s.turn floatWidths = State.engineMove floatWidths { s with host := rest } := by
  simp [State.turn, hh]

theorem turn_of_take (floatWidths : List Nat) {s : State} {rest : List HostMove}
    (hh : s.host = .take :: rest) :
    s.turn floatWidths = .next (State.takeResponse { s with host := rest }) := by
  simp [State.turn, hh]

theorem turn_of_reset (floatWidths : List Nat) {s : State} {rest : List HostMove}
    (hh : s.host = .reset :: rest) :
    s.turn floatWidths = .next (State.resetEvent { s with host := rest }) := by
  simp [State.turn, hh]

theorem turn_of_present_idle (floatWidths : List Nat) {s : State} {c : CmdWord} {o : BusWord}
    {rest : List HostMove} (idle : s.phase = .idle) (hh : s.host = .present c o :: rest) :
    s.turn floatWidths = .next (State.accept c o { s with host := rest }) := by
  simp [State.turn, hh, idle]

theorem turn_of_present_busy (floatWidths : List Nat) {s : State} {c : CmdWord} {o : BusWord}
    {rest : List HostMove} (busy : s.phase = .busy) (hh : s.host = .present c o :: rest) :
    s.turn floatWidths = s.engineMove floatWidths := by
  simp [State.turn, hh, busy]

end Sys2Proof.Machine

/-! ## What the host can tell apart

Each operation on the state takes states that the host cannot tell apart to such states. For the answer to the
held command this rests on the master rule: the response depends on the latches alone (10_state.md R20, R31). -/

namespace Sys2Proof.Machine

open Sys2Proof

/-- Both answers are next states, and the host cannot tell these apart. -/
def NextIndistinguishable (a a' : Answer) : Prop :=
  ∃ t t', a = .next t ∧ a' = .next t' ∧ Indistinguishable t t'

section

variable {s s' : State} (h : Indistinguishable s s')

include h

theorem Indistinguishable.next : NextIndistinguishable (.next s) (.next s') := ⟨s, s', rfl, rfl, h⟩

theorem Indistinguishable.withHost (rest : List HostMove) :
    Indistinguishable { s with host := rest } { s' with host := rest } := by
  obtain ⟨phase_eq, responses_eq, -, latches_eq⟩ := h
  exact ⟨phase_eq, responses_eq, rfl, latches_eq⟩

theorem Indistinguishable.takeResponse : Indistinguishable s.takeResponse s'.takeResponse := by
  obtain ⟨phase_eq, responses_eq, host_eq, latches_eq⟩ := h
  exact ⟨phase_eq, congrArg List.tail responses_eq, host_eq, latches_eq⟩

/-- The free values that the registers take at a reset stand behind an IDLE `phase` (R300, R302). -/
theorem Indistinguishable.resetEvent : Indistinguishable s.resetEvent s'.resetEvent := by
  obtain ⟨-, -, host_eq, -⟩ := h
  exact ⟨rfl, rfl, host_eq, nofun⟩

/-- Accepting overwrites both latches, stale values with them (R111). -/
theorem Indistinguishable.accept (c : CmdWord) (o : BusWord) :
    Indistinguishable (s.accept c o) (s'.accept c o) := by
  obtain ⟨-, responses_eq, host_eq, -⟩ := h
  exact ⟨rfl, responses_eq, host_eq, fun _ => ⟨rfl, rfl⟩⟩

theorem Indistinguishable.of_answered {r : Response} {t t' : State} (ht : Answered r s t)
    (ht' : Answered r s' t') : Indistinguishable t t' := by
  obtain ⟨-, responses_eq, host_eq, -⟩ := h
  obtain ⟨idle, responses_t, -, -, host_t⟩ := ht
  obtain ⟨idle', responses_t', -, -, host_t'⟩ := ht'
  refine ⟨by rw [idle, idle'], by rw [responses_t, responses_t', responses_eq],
    by rw [host_t, host_t', host_eq], fun busy => ?_⟩
  rw [idle] at busy
  cases busy

/-- Two engines that hold the same command answer it alike, since the master rule reads the latches alone. -/
theorem Indistinguishable.answerHeldWith (floatWidths : List Nat) (busy : s.phase = .busy) :
    NextIndistinguishable (s.answerHeldWith floatWidths) (s'.answerHeldWith floatWidths) := by
  obtain ⟨cmdQ_eq, opndQ_eq⟩ : s.cmdQ = s'.cmdQ ∧ s.opndQ = s'.opndQ := by
    obtain ⟨-, -, -, latches_eq⟩ := h
    exact latches_eq busy
  obtain ⟨t, step_t, answered⟩ := answerHeldWith_answered floatWidths s
  obtain ⟨t', step_t', answered'⟩ := answerHeldWith_answered floatWidths s'
  rw [cmdQ_eq, opndQ_eq] at answered
  exact ⟨t, t', step_t, step_t', h.of_answered answered answered'⟩

theorem Indistinguishable.engineMove (floatWidths : List Nat) :
    NextIndistinguishable (s.engineMove floatWidths) (s'.engineMove floatWidths) := by
  have ⟨phase_eq, _⟩ := h
  cases hp : s.phase with
  | idle =>
    rw [engineMove_of_idle _ hp, engineMove_of_idle _ (phase_eq.symm.trans hp)]
    exact h.next
  | busy =>
    rw [engineMove_of_busy _ hp, engineMove_of_busy _ (phase_eq.symm.trans hp)]
    exact h.answerHeldWith floatWidths hp

/-- Both engines make the same move, and it keeps them indistinguishable, whatever `FLOAT_WIDTHS`. -/
theorem Indistinguishable.turn (floatWidths : List Nat) :
    NextIndistinguishable (s.turn floatWidths) (s'.turn floatWidths) := by
  have ⟨phase_eq, _, host_eq, _⟩ := h
  cases hh : s.host with
  | nil =>
    rw [turn_of_nil _ hh, turn_of_nil _ (host_eq.symm.trans hh)]
    exact h.engineMove floatWidths
  | cons move rest =>
    have hh' := host_eq.symm.trans hh
    cases move with
    | quiet =>
      rw [turn_of_quiet _ hh, turn_of_quiet _ hh']
      exact (h.withHost rest).engineMove floatWidths
    | take =>
      rw [turn_of_take _ hh, turn_of_take _ hh']
      exact (h.withHost rest).takeResponse.next
    | reset =>
      rw [turn_of_reset _ hh, turn_of_reset _ hh']
      exact (h.withHost rest).resetEvent.next
    | present c o =>
      cases hp : s.phase with
      | idle =>
        rw [turn_of_present_idle _ hp hh, turn_of_present_idle _ (phase_eq.symm.trans hp) hh']
        exact ((h.withHost rest).accept c o).next
      | busy =>
        rw [turn_of_present_busy _ hp hh, turn_of_present_busy _ (phase_eq.symm.trans hp) hh']
        exact h.engineMove floatWidths

end

/-- Settles O43: every move of host and engine reads the visible part of the state alone, and an answer is the
master rule of the two latches. -/
theorem hiddenStateIsUnobservable : Obligations.HiddenStateIsUnobservable :=
  fun _ _ h => h.turn Config.floatWidths

end Sys2Proof.Machine

/-! ## The response to a command

A command has one response, and it is the master rule's (R114). -/

namespace Sys2Proof.Machine

open Sys2Proof

/-- After reset and one accept the engine holds the command (R32, R111). -/
theorem holds_accept_reset (c : CmdWord) (o : BusWord) : Holds c o (State.reset.accept c o) :=
  ⟨rfl, rfl, rfl, .inl rfl⟩

theorem Answered.response_unique {r r' : Response} {s t : State} (h : Answered r s t)
    (h' : Answered r' s t) : r = r' := by
  obtain ⟨-, responses_r, -⟩ := h
  obtain ⟨-, responses_r', -⟩ := h'
  simpa [responses_r] using responses_r'

theorem responds_iff_eq_masterRule (c : CmdWord) (o : BusWord) (r : Response) :
    Responds c o r ↔ r = masterRule c o := by
  constructor
  · intro h
    have held := holds_accept_reset c o
    obtain ⟨t, step_t, answered⟩ := h _ held
    obtain ⟨t', step_t', answered'⟩ := turn_answers_masterRuleWith Config.floatWidths held
    cases step_t.symm.trans step_t'
    exact answered.response_unique answered'
  · rintro rfl s held
    exact turn_answers_masterRuleWith Config.floatWidths held

/-- The master rule reads the W low bits of the operand (R35). -/
theorem masterRule_congr {c : CmdWord} {o o' : BusWord}
    (low : o.setWidth (selectedWidth c) = o'.setWidth (selectedWidth c)) :
    masterRule c o = masterRule c o' := by
  simp [masterRule, masterRuleWith, low]

theorem masterRule_of_legal {c : CmdWord} (hl : legal c = true) (o : BusWord) :
    masterRule c o = ⟨onBus (rev (o.setWidth (selectedWidth c))), .ok⟩ :=
  if_pos hl

theorem onBus_getLsbD_of_ge {w : Nat} (y : BitVec w) {k : Nat} (hk : w ≤ k) :
    (onBus y).getLsbD k = false := by
  rw [onBus, BitVec.getLsbD_setWidth, BitVec.getLsbD_of_ge y k hk, Bool.and_false]

/-- Settles O32: the response is the master rule's, which reads the operand at width W and puts a W-bit result
on the bus. -/
theorem operandAboveWidthIsIgnored : Obligations.OperandAboveWidthIsIgnored := by
  refine fun c hl => ⟨fun o o' low r hr => ?_, fun o r hr => ?_⟩
  · rw [responds_iff_eq_masterRule] at hr ⊢
    rw [hr, masterRule_congr low]
  · rw [responds_iff_eq_masterRule, masterRule_of_legal hl] at hr
    subst hr
    exact ⟨rfl, fun _ hk => onBus_getLsbD_of_ge _ hk⟩

/-- Settles O34: the two statuses are all there are, and neither has the code `0b10` or `0b11`. -/
theorem statusCodes : Obligations.StatusCodes := by
  refine ⟨rfl, rfl, fun st => ?_⟩
  cases st with
  | ok => decide
  | illegal => decide

end Sys2Proof.Machine

/-! ## The idle engine and the state after reset -/

namespace Sys2Proof.Machine

open Sys2Proof

/-- Settles O41: with no host move the engine moves, and IDLE it waits. -/
theorem idleEngineWaits : Obligations.IdleEngineWaits := fun s idle no_move => by
  calc step s = s.engineMove Config.floatWidths := turn_of_nil _ no_move
    _ = .next s := engineMove_of_idle _ idle

/-- Settles O46: `State.reset` writes out both fields as R32 does. -/
theorem resetLeavesTheEngineIdle : Obligations.ResetLeavesTheEngineIdle := ⟨rfl, rfl⟩

/-- While the engine is IDLE every entry of the log is answered. -/
theorem accounted_iff_of_idle {s : State} (idle : s.phase = .idle) (log : List (CmdWord × BusWord)) :
    Accounted log s ↔ s.responses = log.map fun p => masterRule p.1 p.2 := by
  simp [Accounted, idle]

/-- Settles O45: IDLE with an empty channel, the state after reset has as many answered commands as responses,
none. -/
theorem resetAccountsForNothing : Obligations.ResetAccountsForNothing := by
  intro log
  obtain ⟨idle, no_response⟩ := resetLeavesTheEngineIdle
  rw [accounted_iff_of_idle idle, no_response, eq_comm, List.map_eq_nil_iff]

end Sys2Proof.Machine

/-! ## The tables are sound

Each entry mirrors its index, so that a table applied twice mirrors twice, which is the identity (R55). -/

namespace Sys2Proof.Machine

open Sys2Proof

/-- `rev_W` is its own inverse at every width: bit k goes to W−1−k and back (R115). -/
@[simp] theorem rev_rev {w : Nat} (x : BitVec w) : rev (rev x) = x := by
  apply BitVec.eq_of_getLsbD_eq
  intro k hk
  have mirrored : w - 1 - k < w := by omega
  have back : w - 1 - (w - 1 - k) = k := by omega
  rw [rev_getLsbD, rev_getLsbD, back, decide_eq_true hk, decide_eq_true mirrored, Bool.true_and, Bool.true_and]

theorem btab_btab (i : Byte) : btab (btab i) = i := by
  rw [btab_eq_rev, btab_eq_rev, rev_rev]

theorem ntab_ntab (i : Nibble) : ntab (ntab i) = i := by
  rw [ntab_eq_rev, ntab_eq_rev, rev_rev]

/-- `BTAB` has sixteen rows of sixteen entries (R50, R52). -/
theorem btabEntries_length : btabEntries.length = 256 := by
  simp only [btabEntries, List.length_append, List.length_cons, List.length_nil]

/-- `NTAB` has sixteen entries (R50, R53). -/
theorem ntabEntries_length : ntabEntries.length = 16 := rfl

/-- Settles O12: the sizes are those of the literal lists, the entries mirror their indices, and mirroring is
its own inverse. -/
theorem tablesAreSound : Obligations.TablesAreSound :=
  ⟨btabEntries_length, ntabEntries_length, fun i => ⟨btab_eq_rev i, btab_btab i⟩,
    fun i => ⟨ntab_eq_rev i, ntab_ntab i⟩⟩

end Sys2Proof.Machine

/-! ## Words and forms

The five slices of a word hold its number in mixed radix (R81), so the fields of a word spell a form exactly when
the word is that form's, and decoding inverts encoding. -/

namespace Sys2Proof

theorem fieldsOf_zero_toNat (c : CmdWord) : (fieldsOf c).zero.toNat = c.toNat / 1024 % 64 := by
  simp [fieldsOf, Nat.shiftRight_eq_div_pow]

theorem fieldsOf_strat_toNat (c : CmdWord) : (fieldsOf c).strat.toNat = c.toNat / 128 % 8 := by
  simp [fieldsOf, Nat.shiftRight_eq_div_pow]

theorem fieldsOf_var_toNat (c : CmdWord) : (fieldsOf c).var.toNat = c.toNat / 32 % 4 := by
  simp [fieldsOf, Nat.shiftRight_eq_div_pow]

theorem fieldsOf_kind_toNat (c : CmdWord) : (fieldsOf c).kind.toNat = c.toNat / 8 % 4 := by
  simp [fieldsOf, Nat.shiftRight_eq_div_pow]

theorem fieldsOf_wsel_toNat (c : CmdWord) : (fieldsOf c).wsel.toNat = c.toNat % 8 := by
  simp [fieldsOf]

/-- Settles O1: the slices are adjacent digits of the number in mixed radix. -/
theorem wordIsTheSumOfItsFields : Obligations.WordIsTheSumOfItsFields := by
  intro c
  have sixteen_bits : c.toNat < 65536 := c.isLt
  rw [fieldsOf_zero_toNat, fieldsOf_strat_toNat, fieldsOf_var_toNat, fieldsOf_kind_toNat, fieldsOf_wsel_toNat]
  omega

theorem Datapath.strat_lt (p : Datapath) : p.strat < 8 := by cases p <;> decide

theorem Datapath.var_lt (p : Datapath) : p.var < 4 := by cases p <;> decide

theorem Kind.code_lt (k : Kind) : k.code < 4 := by cases k <;> decide

theorem Width.code_lt (W : Width) : W.code < 8 := by cases W <;> decide

/-- No code overflows into the next field, so the word's number is the weighted sum of R81 itself. -/
theorem Form.word_toNat (f : Form) :
    f.word.toNat = f.path.strat * 128 + f.path.var * 32 + f.kind.code * 8 + f.width.code := by
  have strat_lt := f.path.strat_lt
  have var_lt := f.path.var_lt
  have kind_lt := f.kind.code_lt
  have width_lt := f.width.code_lt
  rw [Form.word, BitVec.toNat_ofNat]
  omega

/-- A form is spelled by its own word and by no other. -/
theorem spells_iff_word_eq (c : CmdWord) (f : Form) : Spells c f ↔ f.word = c := by
  constructor
  · rintro ⟨hz, hs, hv, hk, hW⟩
    apply BitVec.eq_of_toNat_eq
    rw [f.word_toNat, wordIsTheSumOfItsFields c, hz, hs, hv, hk, hW]
    simp
  · rintro rfl
    have strat_lt := f.path.strat_lt
    have var_lt := f.path.var_lt
    have kind_lt := f.kind.code_lt
    have width_lt := f.width.code_lt
    refine ⟨BitVec.eq_of_toNat_eq ?_, ?_, ?_, ?_, ?_⟩
    · rw [fieldsOf_zero_toNat, f.word_toNat]
      change _ = 0
      omega
    · rw [fieldsOf_strat_toNat, f.word_toNat]; omega
    · rw [fieldsOf_var_toNat, f.word_toNat]; omega
    · rw [fieldsOf_kind_toNat, f.word_toNat]; omega
    · rw [fieldsOf_wsel_toNat, f.word_toNat]; omega

theorem decodeWith_eq_instr_iff (floatWidths : List Nat) (c : CmdWord) (i : Instr) :
    decodeWith floatWidths c = .instr i ↔ ∃ f : Form, f.word = c ∧ f.decodeWith floatWidths = .instr i := by
  simp only [← spells_iff_word_eq, ← formOf_eq_ok_iff]
  cases hf : formOf c <;> simp [decodeWith, hf]

theorem Form.decodeWith_eq_instr_iff (floatWidths : List Nat) (f : Form) (i : Instr) :
    f.decodeWith floatWidths = .instr i ↔ f.wellFormedWith floatWidths = true ∧ f.instr? = some i := by
  cases hw : f.wellFormedWith floatWidths <;> cases hi : f.instr? <;> simp [Form.decodeWith, hw, hi]

/-- Each row of R88 is a form that R87 lists, and the command listed under it is the row's. -/
theorem Instr.form_wellFormed_instr? (i : Instr) :
    i.form.wellFormedWith Config.floatWidths = true ∧ i.form.instr? = some i := by
  cases i <;> exact ⟨rfl, rfl⟩

/-- Apart from the two F8 forms (log entry 1) a form that has a command is that command's own. -/
theorem Instr.form_eq_of_instr? {f : Form} {i : Instr} (hi : f.instr? = some i)
    (not_F8 : ¬ (f.kind = .f ∧ f.width = .w8)) : i.form = f := by
  obtain ⟨p, k, W⟩ := f
  simp only [Form.instr?] at hi
  split at hi <;> cases hi
  -- The last two rows that have a command are the F8 forms.
  case h_45 | h_46 => exact absurd ⟨rfl, rfl⟩ not_F8
  all_goals rfl

/-- The default `FLOAT_WIDTHS` does not hold 8, so no F8 form is listed (R87). -/
theorem Form.not_F8_of_wellFormed {f : Form} (h : f.wellFormed = true) : ¬ (f.kind = .f ∧ f.width = .w8) := by
  rintro ⟨kind_f, width_8⟩
  simp [Form.wellFormed, Form.wellFormedWith, Form.floatAdmitted, kind_f, width_8, Width.bits,
    Config.floatWidths] at h

theorem Form.decodeWith_default_eq_instr_iff (f : Form) (i : Instr) :
    f.decodeWith Config.floatWidths = .instr i ↔ i.form = f := by
  rw [Form.decodeWith_eq_instr_iff]
  constructor
  · rintro ⟨hw, hi⟩
    exact Instr.form_eq_of_instr? hi (Form.not_F8_of_wellFormed hw)
  · rintro rfl
    exact i.form_wellFormed_instr?

/-- Settles O4: a word decodes by the one form that it spells, and by default each command has one form. -/
theorem decodeInvertsEncode : Obligations.DecodeInvertsEncode := by
  intro c i
  calc decode c = .instr i
      ↔ ∃ f : Form, f.word = c ∧ f.decodeWith Config.floatWidths = .instr i := decodeWith_eq_instr_iff _ c i
    _ ↔ ∃ f : Form, f.word = c ∧ i.form = f := by simp only [Form.decodeWith_default_eq_instr_iff]
    _ ↔ encode i = c := by simp [encode]

/-- Settles O2: a legal word is the encoding of its command; the two refused words fail at the strategy code and
at the kinds of VEC. -/
theorem writtenWordsDecode : Obligations.WrittenWordsDecode := by
  refine ⟨?_, ?_, ?_, ?_, ?_, ?_, rfl, rfl⟩ <;> exact (decodeInvertsEncode _ _).2 rfl

end Sys2Proof

/-! ## Decoding is the legality test

A word decodes where `legal` of R89 holds, which is where it is the word of a command; elsewhere the engine
answers ILLEGAL (60_exceptions.md R271). -/

namespace Sys2Proof

theorem exists_decodeWith_iff_legalWith (floatWidths : List Nat) (c : CmdWord) :
    (∃ i, decodeWith floatWidths c = .instr i) ↔ legalWith floatWidths c = true := by
  cases hl : legalWith floatWidths c with
  | true =>
    obtain ⟨i, hi, -⟩ := decodeWith_of_legalWith hl
    exact iff_of_true ⟨i, hi⟩ rfl
  | false =>
    obtain ⟨why, hd⟩ := decodeWith_of_not_legalWith hl
    simp [hd]

/-- The width that a word selects is that of the command it decodes to (R85). -/
theorem selectedWidth_of_decodeWith {floatWidths : List Nat} {c : CmdWord} {i : Instr}
    (h : decodeWith floatWidths c = .instr i) : i.form.width.bits = selectedWidth c := by
  obtain ⟨j, hj, hW⟩ := decodeWith_of_legalWith ((exists_decodeWith_iff_legalWith _ _).1 ⟨i, h⟩)
  cases h.symm.trans hj
  exact hW

theorem decodeWith_of_not_exists {floatWidths : List Nat} {c : CmdWord}
    (h : ¬ ∃ i, decodeWith floatWidths c = .instr i) : ∃ why, decodeWith floatWidths c = .illegal why :=
  decodeWith_of_not_legalWith (by simpa [exists_decodeWith_iff_legalWith] using h)

/-- The commands in the order of the rows of R88. -/
def allInstrs : List Instr :=
  [.bcU8, .bcU16, .bcU32, .bcU64, .bcU128, .bcS8, .bcS16, .bcS32, .bcS64, .bcS128, .bcF16,
    .bcF32, .bcF64, .bcF128, .vecU8, .vecU16, .vecU32, .vecU64, .vecU128, .lutU8, .lutU16, .lutU32,
    .lutU64, .lutU128, .lutS8, .lutS16, .lutS32, .lutS64, .lutS128, .lutF16, .lutF32, .lutF64, .lutF128,
    .iterAU8, .iterAU16, .iterAU32, .iterAU64, .iterAU128, .iterBU8, .iterBU16, .iterBU32, .iterBU64,
    .iterBU128, .iterNU32]

theorem mem_allInstrs (i : Instr) : i ∈ allInstrs := by cases i <;> decide

theorem exists_decode_iff_mem_words (c : CmdWord) :
    (∃ i, decode c = .instr i) ↔ c ∈ allInstrs.map encode := by
  simp [decodeInvertsEncode c, mem_allInstrs]

end Sys2Proof

namespace Sys2Proof.Machine

open Sys2Proof

/-- A held word that does not decode is answered ILLEGAL by the engine's move (R112, R271). -/
theorem engineMove_of_illegal {floatWidths : List Nat} {s : State} (busy : s.phase = .busy)
    (h : ¬ ∃ i, decodeWith floatWidths s.cmdQ = .instr i) :
    s.engineMove floatWidths = .next s.takeIllegalCommand := by
  obtain ⟨why, hd⟩ := decodeWith_of_not_exists h
  rw [engineMove_of_busy floatWidths busy, answerHeldWith_illegal floatWidths s why hd]

/-- Settles O3: the decoder's verdict is `legalWith`, whose conjuncts are R89's; the legal words are the encodings
of the 44 commands; any other word is answered by `takeIllegalCommand`. -/
theorem decodingIsTheLegalityTest : Obligations.DecodingIsTheLegalityTest := by
  intro c
  refine ⟨?conjuncts, exists_decode_iff_mem_words c, fun i h => selectedWidth_of_decodeWith h,
    fun h => ⟨?held, ?quiet⟩⟩
  case conjuncts =>
    refine (exists_decodeWith_iff_legalWith Config.floatWidths c).trans ?_
    simp only [legalWith, Config.floatWidths, Bool.and_eq_true, Bool.or_eq_true, Bool.not_eq_true', beq_iff_eq,
      bne_iff_ne, List.contains_iff_mem, and_assoc, imp_iff_not_or, not_and_or,
      ← Bool.not_eq_true, ne_eq]
  case held =>
    rintro o s ⟨busy, rfl, -, to_move⟩
    rw [step, turn_of_engineToMove _ s busy to_move, ← engineMove_of_busy _ busy, engineMove_of_illegal busy h]
    rfl
  case quiet =>
    rintro s rest busy rfl hh
    rw [step, turn_of_quiet _ hh, engineMove_of_illegal (s := { s with host := rest }) busy h]
    rfl

/-- At a width that `FLOAT_WIDTHS` holds no kind is refused for its width, so the strategy alone decides (R87). -/
theorem decodeWith_word_of_mem_floatWidths {floatWidths : List Nat} {f : Form} {i : Instr}
    (listed : f.width.bits ∈ floatWidths) (kind_ok : f.path.admitsKind f.kind = true)
    (width_ok : f.path.admitsWidth f.width = true) (hi : f.instr? = some i) :
    decodeWith floatWidths f.word = .instr i := by
  rw [decodeWith_eq_instr_iff]
  refine ⟨f, rfl, (Form.decodeWith_eq_instr_iff _ _ _).2 ⟨?_, hi⟩⟩
  simp [Form.wellFormedWith, Form.floatAdmitted, kind_ok, width_ok, listed]

/-- Settles O5: the decoder's verdict is `legalWith` for every set, which only kind F makes it consult; the two F8
words are those of the F8 forms, listed where the set holds 8. -/
theorem floatWidthsOnlyDecideFloatWords : Obligations.FloatWidthsOnlyDecideFloatWords := by
  refine fun floatWidths c => ⟨exists_decodeWith_iff_legalWith floatWidths c,
    fun not_float => decodeWith_eq_of_kind_ne_float not_float _ _, fun has_8 => ⟨?_, ?_⟩⟩
  · exact decodeWith_word_of_mem_floatWidths (f := ⟨.bc, .f, .w8⟩) has_8 rfl rfl rfl
  · exact decodeWith_word_of_mem_floatWidths (f := ⟨.lut, .f, .w8⟩) has_8 rfl rfl rfl

end Sys2Proof.Machine

/-! ## The textual form reads back

Each part of a mnemonic tells where it ends, so the text determines the form; reading digits after digits is
one reading, so a number is read from its last digit backwards (R93). -/

namespace Sys2Proof.Machine

open Sys2Proof

/-- No strategy's text, closed by its dot, begins another's. -/
theorem Datapath.text_dot_append_inj {p q : Datapath} {r r' : List Char}
    (h : Datapath.text p ++ '.' :: r = Datapath.text q ++ '.' :: r') : p = q ∧ r = r' := by
  cases p <;> cases q <;> simp_all [Datapath.text]

theorem Kind.text_append_inj {k l : Kind} {r r' : List Char} (h : Kind.text k ++ r = Kind.text l ++ r') :
    k = l ∧ r = r' := by
  cases k <;> cases l <;> simp_all [Kind.text]

theorem Width.text_injective {W V : Width} (h : Width.text W = Width.text V) : W = V := by
  cases W <;> cases V <;> simp_all [Width.text]

theorem Form.mnemonic_injective {f g : Form} (h : Form.mnemonic f = Form.mnemonic g) : f = g := by
  obtain ⟨p, k, W⟩ := f
  obtain ⟨q, l, V⟩ := g
  simp only [Form.mnemonic, List.append_assoc, List.cons_append, List.nil_append, List.cons.injEq,
    true_and] at h
  obtain ⟨rfl, after_path⟩ := Datapath.text_dot_append_inj h
  obtain ⟨rfl, widths⟩ := Kind.text_append_inj after_path
  obtain rfl := Width.text_injective widths
  rfl

theorem mem_allForms (f : Form) : f ∈ allForms := by
  obtain ⟨p, k, W⟩ := f
  have path_listed : p ∈ [Datapath.bc, .vec, .lut, .iterA, .iterB, .iterN] := by cases p <;> decide
  have kind_listed : k ∈ [Kind.u, .s, .f] := by cases k <;> decide
  have width_listed : W ∈ [Width.w8, .w16, .w32, .w64, .w128] := by cases W <;> decide
  exact List.mem_flatMap.2 ⟨p, path_listed, List.mem_flatMap.2 ⟨k, kind_listed,
    List.mem_map.2 ⟨W, width_listed, rfl⟩⟩⟩

/-- Settles O6: the search over all forms finds one, and only the form itself has its mnemonic. -/
theorem mnemonicsReadBack : Obligations.MnemonicsReadBack := by
  intro f
  have found : (readMnemonic (Form.mnemonic f)).isSome := List.find?_isSome.2 ⟨f, mem_allForms f, by simp⟩
  obtain ⟨g, hg⟩ := Option.isSome_iff_exists.1 found
  have same_text : Form.mnemonic g = Form.mnemonic f := by simpa using List.find?_some hg
  rw [hg, Form.mnemonic_injective same_text]

theorem digitValue_hexDigit : ∀ d < 16, digitValue (hexDigit d) = some d := by decide

theorem readDigits_append (base n : Nat) (xs ys : List Char) :
    readDigits base n (xs ++ ys) = (readDigits base n xs).bind fun m => readDigits base m ys := by
  induction xs generalizing n with
  | nil => rfl
  | cons c xs ih =>
    cases hd : digitValue c with
    | none => simp [readDigits, hd]
    | some d => by_cases hb : d < base <;> simp [readDigits, hd, hb, ih]

theorem readDigits_hexDigit (n : Nat) {d : Nat} (hd : d < 16) :
    readDigits 16 n [hexDigit d] = some (16 * n + d) := by
  simp [readDigits, digitValue_hexDigit d hd, hd]

/-- Reading the digits of `n` from 0 gives `n`, where they are enough to hold it. -/
theorem readDigits_hexText (digits : Nat) {n : Nat} (h : n < 16 ^ digits) :
    readDigits 16 0 (hexText digits n) = some n := by
  induction digits generalizing n with
  | zero =>
    obtain rfl : n = 0 := by simpa using h
    rfl
  | succ digits ih =>
    have high : n / 16 < 16 ^ digits := Nat.div_lt_of_lt_mul (by rwa [← Nat.pow_succ'])
    have low : n % 16 < 16 := Nat.mod_lt _ (by decide)
    rw [hexText, readDigits_append, ih high, Option.bind_some, readDigits_hexDigit _ low, Nat.div_add_mod]

theorem readOperand_hex {text : List Char} (h : text ≠ []) :
    readOperand ('0' :: 'x' :: text) = readDigits 16 0 text := by
  obtain ⟨d, rest, rfl⟩ := List.exists_cons_of_ne_nil h
  rfl

/-- Settles O7, by induction on the number of digits. -/
theorem hexOperandsReadBack : Obligations.HexOperandsReadBack := by
  intro digits n h
  have has_digit : hexText (digits + 1) n ≠ [] := by simp [hexText]
  rw [readOperand_hex has_digit, readDigits_hexText (digits + 1) h]

end Sys2Proof.Machine

/-! ## The account of commands and responses

A step is a move of the host or the answer to the held command. Each keeps the account in its own way
(40_common_execution.md R111, R112; 70_reset_and_hazards.md R300). -/

namespace Sys2Proof.Machine

open Sys2Proof

/-- While the engine is BUSY the last entry of the log is the held command, and the others are answered. -/
theorem accounted_iff_of_busy {s : State} (busy : s.phase = .busy) (log : List (CmdWord × BusWord)) :
    Accounted log s ↔ ∃ answered, log = answered ++ [(s.cmdQ, s.opndQ)]
      ∧ s.responses = answered.map fun p => masterRule p.1 p.2 := by
  simp [Accounted, busy]

theorem accountStep_of_nil {s : State} (hh : s.host = []) (log : List (CmdWord × BusWord)) :
    accountStep s log = log := by
  simp [accountStep, hh]

/-- What taking a response does to the log: with the oldest response the oldest command goes. -/
theorem accountStep_of_take {s : State} {rest : List HostMove} (hh : s.host = .take :: rest)
    (log : List (CmdWord × BusWord)) :
    accountStep s log = if s.responses = [] then log else log.tail := by
  simp [accountStep, hh]

theorem accountStep_of_reset {s : State} {rest : List HostMove} (hh : s.host = .reset :: rest)
    (log : List (CmdWord × BusWord)) : accountStep s log = [] := by
  simp [accountStep, hh]

theorem accountStep_of_present_idle {s : State} {c : CmdWord} {o : BusWord} {rest : List HostMove}
    (idle : s.phase = .idle) (hh : s.host = .present c o :: rest) (log : List (CmdWord × BusWord)) :
    accountStep s log = log ++ [(c, o)] := by
  simp [accountStep, hh, idle]

theorem accountStep_of_quiet {s : State} {rest : List HostMove} (hh : s.host = .quiet :: rest)
    (log : List (CmdWord × BusWord)) : accountStep s log = log := by
  simp [accountStep, hh]

/-- Where a BUSY engine makes its own move nothing is accepted and nothing is taken. -/
theorem accountStep_of_engineToMove {s : State} (busy : s.phase = .busy) (hm : EngineToMove s)
    (log : List (CmdWord × BusWord)) : accountStep s log = log := by
  obtain hh | ⟨c, o, rest, hh⟩ := hm
  · exact accountStep_of_nil hh log
  · simp [accountStep, hh, busy]

/-- An answer changes `phase` and the channel so that the last entry of the log, which was the held command,
is answered like the others. -/
theorem Accounted.of_answered {log : List (CmdWord × BusWord)} {s t : State} (h : Accounted log s)
    (busy : s.phase = .busy) (ht : Answered (masterRule s.cmdQ s.opndQ) s t) : Accounted log t := by
  obtain ⟨answered, rfl, responses_s⟩ := (accounted_iff_of_busy busy log).1 h
  obtain ⟨idle, responses_t, -⟩ := ht
  rw [accounted_iff_of_idle idle, responses_t, responses_s, List.map_append]
  rfl

theorem Accounted.answerHeld {log : List (CmdWord × BusWord)} {s t : State} (h : Accounted log s)
    (busy : s.phase = .busy) (ht : s.answerHeld = .next t) : Accounted log t := by
  obtain ⟨t', answer_t', answered⟩ := answerHeldWith_answered Config.floatWidths s
  cases ht.symm.trans answer_t'
  exact h.of_answered busy answered

/-- The command that is accepted joins the log unanswered, after all the answered ones (R111). -/
theorem Accounted.accept {log : List (CmdWord × BusWord)} {s : State} (h : Accounted log s)
    (idle : s.phase = .idle) (c : CmdWord) (o : BusWord) : Accounted (log ++ [(c, o)]) (s.accept c o) :=
  (accounted_iff_of_busy rfl _).2 ⟨log, rfl, (accounted_iff_of_idle idle log).1 h⟩

/-- The oldest response answers the oldest command; with no response waiting, no command of the log is answered. -/
theorem Accounted.takeResponse {log : List (CmdWord × BusWord)} {s : State} (h : Accounted log s) :
    Accounted (if s.responses = [] then log else log.tail) s.takeResponse := by
  cases hp : s.phase with
  | idle =>
    rw [accounted_iff_of_idle hp] at h
    rw [accounted_iff_of_idle (s := s.takeResponse) hp, State.takeResponse_responses, h]
    cases log with
    | nil => rfl
    | cons p log => rfl
  | busy =>
    obtain ⟨answered, rfl, responses_eq⟩ := (accounted_iff_of_busy hp log).1 h
    rw [accounted_iff_of_busy (s := s.takeResponse) hp, State.takeResponse_responses, responses_eq]
    cases answered with
    | nil => exact ⟨[], rfl, rfl⟩
    | cons p answered => exact ⟨answered, rfl, rfl⟩

theorem accounted_nil_resetEvent (s : State) : Accounted [] s.resetEvent := rfl

/-- Settles O44: of the moves that a step can be, an accept adds to the log, a take removes the answered command
whose response it takes, a reset starts anew, and an answer is the master rule of the log's last entry. -/
theorem everyStepKeepsTheAccount : Obligations.EveryStepKeepsTheAccount := by
  intro log s t h ht
  obtain ⟨-, hh, stays⟩ | ⟨rest, -, hh, waits⟩ | ⟨rest, hh, takes⟩ | ⟨rest, hh, resets⟩
    | ⟨c, o, rest, idle, hh, accepts⟩ | ⟨rest, busy, hh, answers⟩ | ⟨busy, to_move, answers⟩ := step_cases s
  · cases ht.symm.trans stays
    rw [accountStep_of_nil hh]
    exact h
  · cases ht.symm.trans waits
    rw [accountStep_of_quiet hh]
    exact h
  · cases ht.symm.trans takes
    rw [accountStep_of_take hh]
    exact Accounted.takeResponse (s := { s with host := rest }) h
  · cases ht.symm.trans resets
    rw [accountStep_of_reset hh]
    exact accounted_nil_resetEvent _
  · cases ht.symm.trans accepts
    rw [accountStep_of_present_idle idle hh]
    exact Accounted.accept (s := { s with host := rest }) h idle c o
  · rw [accountStep_of_quiet hh]
    exact Accounted.answerHeld (s := { s with host := rest }) h busy (answers.symm.trans ht)
  · rw [accountStep_of_engineToMove busy to_move]
    exact h.answerHeld busy (answers.symm.trans ht)

theorem answerHeld_responses {s t : State} (ht : s.answerHeld = .next t) :
    t.responses = s.responses ++ [masterRule s.cmdQ s.opndQ] := by
  obtain ⟨t', answer_t', -, responses_eq, -⟩ := answerHeldWith_answered Config.floatWidths s
  cases ht.symm.trans answer_t'
  exact responses_eq

/-- Settles O49: of the moves that a step can be, the waits and the accept are those of an idle engine, and the
answer adds the master rule of the two latches. -/
theorem responsesComeFromTheHeldCommand : Obligations.ResponsesComeFromTheHeldCommand := by
  intro s t ht
  obtain ⟨idle, -, stays⟩ | ⟨rest, idle, -, waits⟩ | ⟨rest, hh, takes⟩ | ⟨rest, hh, resets⟩
    | ⟨c, o, rest, idle, -, accepts⟩ | ⟨rest, busy, -, answers⟩ | ⟨busy, -, answers⟩ := step_cases s
  · cases ht.symm.trans stays
    exact .inl ⟨idle, rfl⟩
  · cases ht.symm.trans waits
    exact .inl ⟨idle, rfl⟩
  · cases ht.symm.trans takes
    exact .inr (.inl ⟨rest, hh, rfl⟩)
  · cases ht.symm.trans resets
    exact .inr (.inr (.inl ⟨rest, hh, rfl⟩))
  · cases ht.symm.trans accepts
    exact .inl ⟨idle, rfl⟩
  · have added := answerHeld_responses (answers.symm.trans ht)
    exact .inr (.inr (.inr ⟨busy, added⟩))
  · have added := answerHeld_responses (answers.symm.trans ht)
    exact .inr (.inr (.inr ⟨busy, added⟩))

/-- A presented command is accepted and then answered, two steps with the other moves of the host untouched
(R111, R112). -/
theorem accept_then_answer {s : State} {c : CmdWord} {o : BusWord} {rest : List HostMove}
    (idle : s.phase = .idle) (hh : s.host = .present c o :: rest)
    (hm : EngineToMove { s with host := rest }) :
    ∃ u t, step s = .next u ∧ step u = .next t ∧ t.phase = .idle ∧ t.host = rest
      ∧ t.responses = s.responses ++ [masterRule c o] := by
  have held : Holds c o (State.accept c o { s with host := rest }) := ⟨rfl, rfl, rfl, hm⟩
  obtain ⟨t, step_t, idle_t, responses_t, -, -, host_t⟩ :=
    turn_answers_masterRuleWith Config.floatWidths held
  exact ⟨_, t, turn_of_present_idle _ idle hh, step_t, idle_t, host_t, responses_t⟩

/-- A host that only presents commands always lets a BUSY engine move (R33, R125). -/
theorem engineToMove_of_host_eq_presented {s : State} {commands : List (CmdWord × BusWord)}
    (hh : s.host = presented commands) : EngineToMove s := by
  cases commands with
  | nil => exact .inl hh
  | cons p commands => exact .inr ⟨p.1, p.2, presented commands, hh⟩

/-- A run is its first step followed by a run from there. -/
theorem run_succ_of_step {M : Host.Core} {s t : M.State} (h : M.step s = .next t) (k : Nat) :
    M.run (k + 1) s = M.run k t := by
  simp [Host.Core.run, h]

/-- Settles O47, by induction on the commands presented: two steps answer the first, and the rest is presented to
an engine that is IDLE again. -/
theorem presentedCommandsAreAnsweredInOrder : Obligations.PresentedCommandsAreAnsweredInOrder := by
  intro commands
  induction commands with
  | nil => exact fun s idle hh => ⟨s, rfl, idle, hh, (List.append_nil _).symm⟩
  | cons p commands ih =>
    intro s idle hh
    obtain ⟨u, t, step_u, step_t, idle_t, host_t, responses_t⟩ :=
      accept_then_answer idle hh (engineToMove_of_host_eq_presented rfl)
    obtain ⟨v, run_v, idle_v, host_v, responses_v⟩ := ih t idle_t host_t
    refine ⟨v, ?_, idle_v, host_v, ?_⟩
    · rw [List.length_cons, Nat.mul_succ, run_succ_of_step (M := Sys2Proof.core) step_u,
        run_succ_of_step (M := Sys2Proof.core) step_t, run_v]
    · rw [responses_v, responses_t, List.append_assoc]
      rfl

end Sys2Proof.Machine

/-! ## The step and the held command

What `accept` latches, what the next step runs, and that the kind takes no part (R111, R112, R123, R126). -/

namespace Sys2Proof.Machine

open Sys2Proof

/-- Settles O37: the step is the model's `accept`. -/
theorem acceptLatchesTheCommand : Obligations.AcceptLatchesTheCommand :=
  fun _ _ _ _ idle hh => turn_of_present_idle _ idle hh

theorem engineMove_of_decode {s : State} {i : Instr} (busy : s.phase = .busy)
    (hd : decode s.cmdQ = .instr i) : s.engineMove Config.floatWidths = exec i s := by
  rw [engineMove_of_busy _ busy]
  exact answerHeld_instr s i hd

/-- Settles O35: a BUSY engine that moves answers, and answering a word that decodes is executing its command. -/
theorem stepRunsTheDecodedCommand : Obligations.StepRunsTheDecodedCommand := by
  refine fun s i busy hd => ⟨fun to_move => ?held, fun rest hh => ?quiet⟩
  case held => rw [step_of_engineToMove s busy to_move, answerHeld_instr s i hd]
  case quiet =>
    calc step s = State.engineMove Config.floatWidths { s with host := rest } := turn_of_quiet _ hh
      _ = exec i { s with host := rest } := engineMove_of_decode (s := { s with host := rest }) busy hd

/-- An instruction's word has its 16 bits and no others (R80), so placing it drops none. -/
theorem withFetchWord_encode (s : State) (i : Instr) :
    s.withFetchWord 16 (encode i).toNat = s.holding (encode i) := by
  rw [State.withFetchWord, Nat.mod_eq_of_lt (encode i).isLt, BitVec.ofNat_toNat, BitVec.setWidth_eq]

/-- Settles O36: where the host would take or reset first, the quiet move that `holding` puts in front is used up
and the host's moves are as before; elsewhere they are as before from the start. -/
theorem placedWordRunsNext : Obligations.PlacedWordRunsNext := by
  intro s i not_quiet
  have decodes : decode (s.holding (encode i)).cmdQ = .instr i := (decodeInvertsEncode _ i).2 rfl
  obtain ⟨moves, after_quiet⟩ := stepRunsTheDecodedCommand (s.holding (encode i)) i rfl decodes
  rw [withFetchWord_encode]
  cases hh : s.host with
  | nil =>
    rw [moves (.inl (by rw [State.holding_host, hh]; rfl)), State.holding, hh]
    rfl
  | cons move rest =>
    cases move with
    | quiet => exact absurd hh (not_quiet rest)
    | take =>
      rw [after_quiet (.take :: rest) (by rw [State.holding_host, hh]; rfl), State.holding, ← hh]
    | reset =>
      rw [after_quiet (.reset :: rest) (by rw [State.holding_host, hh]; rfl), State.holding, ← hh]
    | present c o =>
      rw [moves (.inr ⟨c, o, rest, by rw [State.holding_host, hh]; rfl⟩), State.holding, hh]
      rfl

/-- Settles O31: dispatch reads datapath and width, and no kind; the examples are two operands of REV.BC. -/
theorem kindIndependence : Obligations.KindIndependence := by
  refine ⟨fun i j same_path same_width s => ?_, by decide +kernel, by decide +kernel⟩
  rw [exec_by_path, exec_by_path, same_path, same_width]

end Sys2Proof.Machine

/-! ## `rev_W` on bits and on text

`rev_W` reads the W places of a value from the other end (R113, R117), as a reversal of its text does. -/

namespace Sys2Proof.Machine

open Sys2Proof

theorem rev_getLsbD_of_lt {w : Nat} (x : BitVec w) {k : Nat} (hk : k < w) :
    (rev x).getLsbD k = x.getLsbD (w - 1 - k) := by
  rw [rev_getLsbD, decide_eq_true hk, Bool.true_and]

/-- The places of a list, read from the other end. -/
theorem reverse_range (n : Nat) : (List.range n).reverse = (List.range n).map fun k => n - 1 - k := by
  rw [List.range_eq_range', List.reverse_range', List.range_eq_range']
  simp

/-- The text of `rev_W(x)` is the text of x reversed (R113). -/
theorem binaryText_rev {w : Nat} (x : BitVec w) : binaryText (rev x) = (binaryText x).reverse := by
  rw [binaryText, binaryText, ← List.map_reverse, reverse_range, List.map_map, List.map_inj_left]
  intro p hp
  have inside : w - 1 - p < w := by have := List.mem_range.1 hp; omega
  rw [rev_getLsbD_of_lt x inside]
  rfl

/-- The text shows every bit, so two values with one text are one value (R260). -/
theorem binaryText_injective {w : Nat} {x y : BitVec w} (h : binaryText x = binaryText y) : x = y := by
  rw [binaryText, binaryText, List.map_inj_left] at h
  apply BitVec.eq_of_getLsbD_eq
  intro k hk
  have same_digit := h (w - 1 - k) (List.mem_range.2 (by omega))
  have place : w - 1 - (w - 1 - k) = k := by omega
  rw [place] at same_digit
  cases hx : x.getLsbD k <;> cases hy : y.getLsbD k <;> simp [hx, hy] at same_digit ⊢

/-- Settles O8: the bits by definition, the text by reading the places from the other end, and both primitives by
their own equality with `rev_W`. -/
theorem revMirrorsBitsAndText : Obligations.RevMirrorsBitsAndText :=
  ⟨fun _ x => ⟨fun _ hk => rev_getLsbD_of_lt x hk, binaryText_rev x⟩, brev8_eq_rev, ntab_eq_rev⟩

@[simp] theorem rev_zero (w : Nat) : rev (0#w) = 0#w := by
  apply BitVec.eq_of_getLsbD_eq
  intro k _
  simp [rev_getLsbD]

@[simp] theorem rev_allOnes (w : Nat) : rev (BitVec.allOnes w) = BitVec.allOnes w := by
  apply BitVec.eq_of_getLsbD_eq
  intro k hk
  have inside : w - 1 - k < w := by omega
  simp [rev_getLsbD, hk, inside]

theorem rev_twoPow {w k : Nat} (hk : k < w) : rev (BitVec.twoPow w k) = BitVec.twoPow w (w - 1 - k) := by
  apply BitVec.eq_of_getLsbD_eq
  intro j hj
  have inside : w - 1 - k < w := by omega
  have mirrored : k = w - 1 - j ↔ w - 1 - k = j := by omega
  rw [rev_getLsbD_of_lt _ hj, BitVec.getLsbD_twoPow, BitVec.getLsbD_twoPow]
  simp only [hk, inside, mirrored]

theorem rev_or {w : Nat} (a b : BitVec w) : rev (a ||| b) = rev a ||| rev b := by
  apply BitVec.eq_of_getLsbD_eq
  intro k hk
  simp only [BitVec.getLsbD_or, rev_getLsbD_of_lt _ hk]

theorem rev_and {w : Nat} (a b : BitVec w) : rev (a &&& b) = rev a &&& rev b := by
  apply BitVec.eq_of_getLsbD_eq
  intro k hk
  simp only [BitVec.getLsbD_and, rev_getLsbD_of_lt _ hk]

/-- Counting the ones from the other end counts the same ones (R117). -/
theorem countP_rev {w : Nat} (a : BitVec w) :
    (List.range w).countP (fun k => (rev a).getLsbD k) = (List.range w).countP fun k => a.getLsbD k := by
  calc (List.range w).countP (fun k => (rev a).getLsbD k)
      = (List.range w).countP (fun k => a.getLsbD (w - 1 - k)) := by
        refine List.countP_congr fun k hk => ?_
        rw [rev_getLsbD_of_lt a (List.mem_range.1 hk)]
    _ = (List.range w).reverse.countP (fun k => a.getLsbD k) := by
        rw [reverse_range, List.countP_map]
        rfl
    _ = (List.range w).countP fun k => a.getLsbD k := List.countP_reverse

/-- The fixed points of `rev_W` are the palindromes (R117). -/
theorem rev_eq_self_iff {w : Nat} (a : BitVec w) : rev a = a ↔ (binaryText a).reverse = binaryText a := by
  rw [← binaryText_rev]
  exact ⟨congrArg binaryText, binaryText_injective⟩

/-- Settles O11: each consequence bit by bit, but the count, which runs over the places from the other end, and the
palindromes, which are read off the text. -/
theorem revConsequences : Obligations.RevConsequences := by
  refine ⟨fun W => ⟨rev_zero _, rev_allOnes _, fun k hk => rev_twoPow hk, fun a b => ?_⟩, ?examples⟩
  · exact ⟨rev_or a b, rev_and a b, countP_rev a, rev_eq_self_iff a⟩
  case examples => decide

/-- Mirroring two halves mirrors each and exchanges them. -/
theorem rev_append {w : Nat} (a b : BitVec w) : rev (a ++ b) = rev b ++ rev a := by
  apply BitVec.eq_of_getLsbD_eq
  intro k hk
  rw [rev_getLsbD_of_lt _ hk, BitVec.getLsbD_append, BitVec.getLsbD_append]
  by_cases low : k < w
  · have source_high : ¬ w + w - 1 - k < w := by omega
    have place : w + w - 1 - k - w = w - 1 - k := by omega
    rw [if_neg source_high, if_pos low, place, rev_getLsbD_of_lt a low]
  · have source_low : w + w - 1 - k < w := by omega
    have high : k - w < w := by omega
    have place : w + w - 1 - k = w - 1 - (k - w) := by omega
    rw [if_pos source_low, if_neg low, rev_getLsbD_of_lt b high, place]

/-- Settles O13: both forms are `rev` on bytes, the entries of both tables mirror their indices, and mirroring a
byte mirrors and exchanges its nibbles. -/
theorem byteReverserFormsAgree : Obligations.ByteReverserFormsAgree := by
  refine ⟨fun b => by rw [brev8_eq_rev, btab_eq_rev], fun r c => ?_⟩
  rw [btab_eq_rev, ntab_eq_rev, ntab_eq_rev]
  exact rev_append r c

end Sys2Proof.Machine

/-! ## Lanes and their order

A value of whole bytes is its lanes; `bswap_W` reads them from the other end and does not touch what is in them
(R121, R122). -/

namespace Sys2Proof.Machine

open Sys2Proof

/-- Two values of whole bytes with the same lanes are one value (R8). -/
theorem eq_of_lane_eq {w : Nat} (hw : 8 ∣ w) {x y : BitVec w}
    (h : ∀ j, j < byteCount w → lane x j = lane y j) : x = y := by
  apply BitVec.eq_of_getLsbD_eq
  intro i hi
  have hn := eight_mul_byteCount hw
  have in_byte : i % 8 < 8 := Nat.mod_lt _ (by decide)
  have same_bit := congrArg (fun b : Byte => b.getLsbD (i % 8)) (h (i / 8) (by omega))
  simpa only [lane_getLsbD, in_byte, decide_true, Bool.true_and, Nat.div_add_mod] using same_bit

theorem lane_bswap {w : Nat} (hw : 8 ∣ w) (x : BitVec w) {j : Nat} (hj : j < byteCount w) :
    lane (bswap x) j = lane x (byteCount w - 1 - j) :=
  lane_lanes hw _ j hj

theorem lane_mapLanes {w : Nat} (hw : 8 ∣ w) (f : Byte → Byte) (x : BitVec w) {j : Nat}
    (hj : j < byteCount w) : lane (mapLanes f x) j = f (lane x j) :=
  lane_lanes hw _ j hj

/-- A value whose lane n−1−j is lane j of x, for every j, is `bswap_W(x)`: the rule of R121 with the lanes numbered
from the other end (R56). -/
theorem eq_bswap_of_lane_mirrored {w : Nat} (hw : 8 ∣ w) {x y : BitVec w}
    (h : ∀ j, j < byteCount w → lane y (byteCount w - 1 - j) = lane x j) : y = bswap x := by
  refine eq_of_lane_eq hw fun j hj => ?_
  have mirrored : byteCount w - 1 - j < byteCount w := by omega
  have back : byteCount w - 1 - (byteCount w - 1 - j) = j := by omega
  rw [lane_bswap hw x hj, ← h _ mirrored, back]

theorem bswap_bswap {w : Nat} (hw : 8 ∣ w) (x : BitVec w) : bswap (bswap x) = x :=
  (eq_bswap_of_lane_mirrored hw fun _ hj => (lane_bswap hw x hj).symm).symm

/-- A byte has one lane, which is where it was (R121). -/
theorem bswap_byte (x : Byte) : bswap x = x := by
  refine eq_of_lane_eq (by decide) fun j hj => ?_
  have one_lane : j = 0 := by simpa [byteCount] using hj
  rw [lane_bswap (by decide) x hj, one_lane]
  rfl

/-- Bits keep their place in the byte (R121). -/
theorem bswap_getLsbD_lane {w : Nat} (hw : 8 ∣ w) (x : BitVec w) {j t : Nat} (hj : j < byteCount w)
    (ht : t < 8) : (bswap x).getLsbD (8 * j + t) = x.getLsbD (8 * (byteCount w - 1 - j) + t) := by
  have same_bit := congrArg (fun b : Byte => b.getLsbD t) (lane_bswap hw x hj)
  simpa only [lane_getLsbD, ht, decide_true, Bool.true_and] using same_bit

/-- Lane j from the other end is lane n−1−j. -/
theorem extractLsb'_from_top {w : Nat} (hw : 8 ∣ w) (x : BitVec w) (j : Nat) :
    x.extractLsb' (w - 8 - 8 * j) 8 = lane x (byteCount w - 1 - j) := by
  have hn := eight_mul_byteCount hw
  have place : w - 8 - 8 * j = 8 * (byteCount w - 1 - j) := by omega
  rw [place, lane]

/-- Settles O15: the lanes of `bswap_W(x)` are known, and a value of whole bytes is known by its lanes, from
whichever end they are numbered. -/
theorem bswapReversesLanes : Obligations.BswapReversesLanes := by
  refine ⟨fun W x => ?_, bswap_byte, by decide +kernel, by decide +kernel, by decide +kernel⟩
  have hw := W.eight_dvd_bits
  refine ⟨fun j hj => lane_bswap hw x hj, fun j t hj ht => bswap_getLsbD_lane hw x hj ht,
    bswap_bswap hw x, fun y from_top => eq_bswap_of_lane_mirrored hw fun j hj => ?_⟩
  have source : W.bits - 8 - 8 * (W.bits / 8 - 1 - j) = 8 * j := by
    have lane_lt : j < W.bits / 8 := hj
    omega
  rw [← extractLsb'_from_top hw, from_top j hj, source, lane]

/-- What is done to every lane alike does not see their order (R122). -/
theorem bswap_mapLanes {w : Nat} (hw : 8 ∣ w) (f : Byte → Byte) (x : BitVec w) :
    bswap (mapLanes f x) = mapLanes f (bswap x) := by
  refine eq_of_lane_eq hw fun j hj => ?_
  have mirrored : byteCount w - 1 - j < byteCount w := by omega
  rw [lane_bswap hw _ hj, lane_mapLanes hw f x mirrored, lane_mapLanes hw f _ hj, lane_bswap hw x hj]

/-- Settles O16: the first stage and the second give `rev_W`, lane by lane and as a whole, and the stages commute
because the second treats all lanes alike. -/
theorem compositionIdentity : Obligations.CompositionIdentity := by
  intro W x
  have hw := W.eight_dvd_bits
  have composed : rev x = mapLanes brev8 (bswap x) := (mapLanes_bswap_eq_rev hw brev8_eq_rev x).symm
  refine ⟨fun j hj => ?_, composed, ?_⟩
  · rw [composed, lane_mapLanes hw brev8 _ hj]
  · rw [composed, bswap_mapLanes hw]

end Sys2Proof.Machine

/-! ## The naive strategy reads back what it wrote

Read from the most significant digit on, the first i characters of the text are the value shifted right by W−i
(45_naive_reference.md R260). -/

namespace Sys2Proof.Machine

open Sys2Proof

theorem parseDigits_append (n : Nat) (xs ys : List Char) :
    parseDigits n (xs ++ ys) = (parseDigits n xs).bind fun m => parseDigits m ys := by
  induction xs generalizing n with
  | nil => rfl
  | cons c xs ih =>
    simp only [List.cons_append, parseDigits]
    split
    · exact ih _
    · split
      · exact ih _
      · rfl

theorem parseDigits_bit (n : Nat) (b : Bool) :
    parseDigits n [if b then '1' else '0'] = some (2 * n + b.toNat) := by
  cases b <;> rfl

/-- Bit k goes below the bits above it. -/
theorem shiftRight_eq_two_mul_add_testBit (n k : Nat) :
    n >>> k = 2 * (n >>> (k + 1)) + (n.testBit k).toNat := by
  rw [Nat.toNat_testBit, Nat.shiftRight_succ, Nat.shiftRight_eq_div_pow, Nat.div_add_mod]

/-- The first i characters are the digits of the value without its W−i low bits. -/
theorem parseDigits_leading {w : Nat} (x : BitVec w) {i : Nat} (hi : i ≤ w) :
    parseDigits 0 ((List.range i).map fun p => if x.getLsbD (w - 1 - p) then '1' else '0')
      = some (x.toNat >>> (w - i)) := by
  induction i with
  | zero =>
    rw [Nat.sub_zero, Nat.shiftRight_eq_div_pow, Nat.div_eq_of_lt x.isLt]
    rfl
  | succ i ih =>
    have bits_before : w - i = w - 1 - i + 1 := by omega
    have bits_after : w - (i + 1) = w - 1 - i := by omega
    rw [List.range_succ, List.map_append, parseDigits_append, ih (by omega), Option.bind_some,
      List.map_singleton, parseDigits_bit, bits_before, bits_after,
      shiftRight_eq_two_mul_add_testBit x.toNat (w - 1 - i), BitVec.testBit_toNat]

/-- Formatting and parsing back give the value, without a parse error (R260, R263). -/
theorem parseText_binaryText {w : Nat} (x : BitVec w) : parseText w (binaryText x) = some x := by
  have read : parseDigits 0 (binaryText x) = some x.toNat := by
    simpa [binaryText] using parseDigits_leading x le_rfl
  rw [parseText, read]
  simp [x.isLt]

/-- The naive strategy computes `rev_W` and never fails (R261). -/
theorem naiveRev_eq_some_rev {w : Nat} (x : BitVec w) : naiveRev x = some (rev x) := by
  rw [naiveRev, ← binaryText_rev, parseText_binaryText]

end Sys2Proof.Machine

/-! ## The master rule and its consequences

A command's response is `rev_W` of its operand on the bus, at the width that its word selects (R114), so what holds
of `rev_W` holds of the commands (R115, R116). -/

namespace Sys2Proof.Machine

open Sys2Proof

theorem masterRule_of_illegal {c : CmdWord} (hl : legal c = false) (o : BusWord) :
    masterRule c o = ⟨0, .illegal⟩ :=
  if_neg (Bool.eq_false_iff.1 hl)

/-- Settles O29: every command answers the master rule, in its two cases. (`masterRule` itself names the reference's
function.) -/
theorem masterRule_holds : Obligations.MasterRule := by
  refine fun c o => ⟨fun hl => ?_, fun hl => ?_⟩
  · rw [responds_iff_eq_masterRule, masterRule_of_illegal hl]
  · rw [responds_iff_eq_masterRule, masterRule_of_legal hl]
    rfl

/-- A legal word selects one of the five widths, all within the bus (R85, R89). -/
theorem selectedWidth_le_of_legal {c : CmdWord} (hl : legal c = true) : selectedWidth c ≤ 128 := by
  obtain ⟨i, -, width_eq⟩ := decodeWith_of_legalWith hl
  rw [← width_eq]
  exact i.form.width.bits_le

/-- Settles O10: the response to `o` is `rev_W(o)` on the bus, whose W low bits `rev_W` takes back to those of `o`. -/
theorem revIsAnInvolution : Obligations.RevIsAnInvolution := by
  refine ⟨fun _ x => rev_rev x, fun c o y hl hr => ?_⟩
  rw [responds_iff_eq_masterRule, masterRule_of_legal hl] at hr ⊢
  obtain ⟨rfl, -⟩ := Response.mk.inj hr
  rw [onBus_setWidth _ (selectedWidth_le_of_legal hl), rev_rev]
  rfl

/-- Among legal words the width decides the response (R116). -/
theorem masterRule_eq_of_wsel_eq {c c' : CmdWord} (hl : legal c = true) (hl' : legal c' = true)
    (same_wsel : (fieldsOf c).wsel = (fieldsOf c').wsel) (o : BusWord) :
    masterRule c o = masterRule c' o := by
  have same_width : selectedWidth c = selectedWidth c' := by rw [selectedWidth, selectedWidth, same_wsel]
  rw [masterRule_of_legal hl, masterRule_of_legal hl', same_width]

/-- Settles O30: each datapath and the naive strategy are `rev_W`. -/
theorem crossStrategyEquivalence : Obligations.CrossStrategyEquivalence := by
  refine ⟨fun W x => ?_, fun c c' hl hl' same_wsel o r hr => ?_⟩
  · have bytes := W.eight_dvd_bits
    have counted : W.bits < 256 := Nat.lt_of_le_of_lt W.bits_le (by decide)
    rw [bcRev_eq_rev bytes, vecRev_eq_rev bytes, lutRev_eq_rev bytes, itaFinal_acc counted,
      itbFinal_acc counted.le, naiveRev_eq_some_rev]
    exact ⟨rfl, rfl, rfl, rfl, rfl⟩
  · rw [responds_iff_eq_masterRule] at hr ⊢
    rw [hr, masterRule_eq_of_wsel_eq hl hl' same_wsel]

end Sys2Proof.Machine

/-! ## What a command's rule asks for

Where the algorithm is `rev_W`, the corner cases and the sign remarks of a rule are facts about `rev_W`; what is left
of the rule is that the command completes (41_byte_composition.md R140 to 44_iterative.md R238). -/

namespace Sys2Proof.Machine

open Sys2Proof

/-- Bit W−1 lands on bit 0. -/
theorem rev_getLsbD_zero {w : Nat} (x : BitVec w) : (rev x).getLsbD 0 = x.msb := by
  rw [rev_getLsbD, BitVec.msb_eq_getLsbD_last]
  cases w with
  | zero => simp
  | succ w => rfl

/-- The most negative value is the highest power of two, which `rev_W` takes to the lowest. -/
theorem rev_intMin {w : Nat} (hw : 0 < w) : rev (BitVec.intMin w) = 1#w := by
  have highest : w - 1 < w := by omega
  rw [BitVec.intMin, rev_twoPow highest, Nat.sub_self, BitVec.twoPow_zero]

theorem rev_neg_one (w : Nat) : rev (BitVec.ofInt w (-1)) = BitVec.ofInt w (-1) := by
  have all_ones : BitVec.ofInt w (-1) = ~~~0#w := BitVec.ofInt_negSucc_eq_not_ofNat
  rw [all_ones, BitVec.not_zero, rev_allOnes]

/-- −2 lacks bit 0 alone, so its mirror image lacks bit W−1 alone. -/
theorem rev_neg_two (w : Nat) : rev (BitVec.ofInt w (-2)) = BitVec.intMax w := by
  apply BitVec.eq_of_getLsbD_eq
  intro k hk
  have inside : w - 1 - k < w := by omega
  have all_but_bit_zero : BitVec.ofInt w (-2) = ~~~1#w := BitVec.ofInt_negSucc_eq_not_ofNat
  have below_top : ¬ w - 1 - k = 0 ↔ k + 1 < w := by omega
  rw [rev_getLsbD_of_lt _ hk, all_but_bit_zero, BitVec.getLsbD_not, BitVec.getLsbD_one,
    BitVec.getLsbD_intMax]
  simp [inside, Nat.zero_lt_of_lt hk, ← below_top]

theorem signedRule_of_eq_rev {W : Width} {alg : BitVec W.bits → BitVec W.bits} (halg : ∀ x, alg x = rev x) :
    SignedRule W alg := by
  obtain rfl : alg = rev := funext halg
  exact ⟨rev_getLsbD_zero, rev_intMin W.bits_pos, rev_neg_one _, rev_neg_two _⟩

/-- The rule of a command whose algorithm is `rev_W` and which completes as the rule says. -/
theorem commandRule_of_eq_rev {i : Instr} {word : CmdWord} {W : Width}
    {alg : BitVec W.bits → BitVec W.bits} {regs : BitVec W.bits → State → State → Prop}
    (hword : encode i = word) (halg : ∀ x, alg x = rev x)
    (completes : ∀ s, ∃ t, exec i s = .next t ∧ Answered ⟨onBus (alg (s.operand W.bits)), .ok⟩ s t
      ∧ regs (s.operand W.bits) s t) :
    CommandRule i word W alg regs := by
  obtain rfl : alg = rev := funext halg
  exact ⟨hword, (decodeInvertsEncode word i).2 hword, completes, rev_zero _, rev_allOnes _, rev_rev,
    fun _ => rfl⟩

end Sys2Proof.Machine

/-! ## The commands of the byte-oriented datapaths

Each writes the lane register and responds, and nothing else (R140, R190), so one lemma gives the completion of
REV.BC and of REV.LUT, and the rule of each command is read off its row of R88. -/

namespace Sys2Proof.Machine

open Sys2Proof

/-- A command that puts `v` in `vy` and answers `y` changes nothing else: the bits of `vy` that it uses hold `v`, and
the barrel is as it was (R26, R112). -/
theorem setVy_respondOk_completes {w : Nat} (hw : w ≤ 128) (v y : BitVec w) (s : State) :
    Answered ⟨onBus y, .ok⟩ s ((s.setVy v).respondOk y)
      ∧ ((s.setVy v).respondOk y).vy.setWidth w = v ∧ SameBarrel s ((s.setVy v).respondOk y) :=
  ⟨⟨rfl, rfl, rfl, rfl, rfl⟩, inRegister_setWidth v _ hw, rfl, rfl, rfl, rfl⟩

theorem exec_of_bc {i : Instr} {k : Kind} {W : Width} (hform : i.form = ⟨.bc, k, W⟩) (s : State) :
    exec i s = runBc W.bits s := by
  rw [exec_by_path, hform]

theorem exec_of_lut {i : Instr} {k : Kind} {W : Width} (hform : i.form = ⟨.lut, k, W⟩) (s : State) :
    exec i s = runLut W.bits s := by
  rw [exec_by_path, hform]

/-- The rule of a REV.BC command: `vy` takes the value that is answered (R140). -/
theorem bc_commandRule {i : Instr} {word : CmdWord} {k : Kind} {W : Width}
    (hform : i.form = ⟨.bc, k, W⟩) (hword : encode i = word) :
    CommandRule i word W bcRev (bcRegs W.bits) :=
  commandRule_of_eq_rev hword (bcRev_eq_rev W.eight_dvd_bits) fun s =>
    ⟨_, (exec_of_bc hform s).trans (runBc_next _ s), setVy_respondOk_completes W.bits_le _ _ s⟩

/-- The rule of a REV.LUT command: `vy` takes the byte-reversed operand (R190). -/
theorem lut_commandRule {i : Instr} {word : CmdWord} {k : Kind} {W : Width}
    (hform : i.form = ⟨.lut, k, W⟩) (hword : encode i = word) :
    CommandRule i word W lutRev (byteReversedRegs W.bits) :=
  commandRule_of_eq_rev hword (lutRev_eq_rev W.eight_dvd_bits) fun s =>
    ⟨_, (exec_of_lut hform s).trans (runLut_next _ s), setVy_respondOk_completes W.bits_le _ _ s⟩

/-- Reversing the bytes and then treating every lane by `f` takes lane n−1−j through `f` to lane j. -/
theorem laneRule_mapLanes_bswap (W : Width) (f : Byte → Byte) :
    LaneRule W (fun x => mapLanes f (bswap x)) f := by
  intro x j hj
  have bytes := W.eight_dvd_bits
  show lane (mapLanes f (bswap x)) j = f (lane x (byteCount W.bits - 1 - j))
  rw [lane_mapLanes bytes f _ hj, lane_bswap bytes x hj]

/-- The worked examples of R141 to R150 evaluate as the spec has them. -/
theorem bcIntegerExamples : BcIntegerExamples := by
  unfold BcIntegerExamples
  decide +kernel

/-- The worked examples of R151 to R154 and R202 to R205 evaluate as the spec has them. -/
theorem floatExamples : FloatExamples := by
  unfold FloatExamples
  decide +kernel

/-- Settles O23: each command by its row of R88, kind S by the independence of the kind, and at width 8 both
`BC_8` and the Byte Reverser are `rev_8`. -/
theorem byteCompositionIntegerCommands : Obligations.ByteCompositionIntegerCommands := by
  have kind_ignored := kindIndependence.1
  refine ⟨bc_commandRule rfl rfl, bc_commandRule rfl rfl, bc_commandRule rfl rfl, bc_commandRule rfl rfl,
    bc_commandRule rfl rfl, bc_commandRule rfl rfl, bc_commandRule rfl rfl, bc_commandRule rfl rfl,
    bc_commandRule rfl rfl, bc_commandRule rfl rfl, fun W => ⟨?lanes, ?sign⟩, fun x => ?byte, fun s => ?kinds,
    bcIntegerExamples⟩
  case lanes => exact laneRule_mapLanes_bswap W brev8
  case sign => exact signedRule_of_eq_rev (bcRev_eq_rev W.eight_dvd_bits)
  case byte => rw [bcRev_eq_rev (by decide), brev8_eq_rev]
  case kinds => and_intros <;> exact kind_ignored _ _ rfl rfl s

/-- Settles O24: each command by its row of R88, kind F by the independence of the kind; the sign bit lands on
bit 0 because both strategies are `rev_W`. -/
theorem floatCommands : Obligations.FloatCommands := by
  have kind_ignored := kindIndependence.1
  refine ⟨bc_commandRule rfl rfl, bc_commandRule rfl rfl, bc_commandRule rfl rfl, bc_commandRule rfl rfl,
    lut_commandRule rfl rfl, lut_commandRule rfl rfl, lut_commandRule rfl rfl, lut_commandRule rfl rfl,
    fun W => ⟨?bc_lanes, ?lut_lanes⟩, fun W x => ?sign, fun s => ?bc_kinds, fun s => ?lut_kinds, btab_btab,
    by decide, floatExamples⟩
  case bc_lanes => exact laneRule_mapLanes_bswap W brev8
  case lut_lanes => exact laneRule_mapLanes_bswap W btab
  case sign =>
    have bytes := W.eight_dvd_bits
    rw [bcRev_eq_rev bytes, lutRev_eq_rev bytes]
    exact ⟨rev_getLsbD_zero x, rev_getLsbD_zero x⟩
  case bc_kinds => and_intros <;> exact kind_ignored _ _ rfl rfl s
  case lut_kinds => and_intros <;> exact kind_ignored _ _ rfl rfl s

end Sys2Proof.Machine

/-! ## The vector terms as shifts of the whole vector

A masked vector holds bit k of every byte alone, and the distance |7−2k| takes it to place 7−k of the same byte, so
nothing crosses from lane to lane (42_vectorized.md R170, R171). -/

namespace Sys2Proof.Machine

open Sys2Proof

/-- Settles O17: a grouping of the lanes does not change what is done to each of them. -/
theorem vectorResultIgnoresLaneCount : Obligations.VectorResultIgnoresLaneCount :=
  ⟨rfl, fun W _ some_lane v =>
    ⟨vecPasses_eq_vecSteps W.eight_dvd_bits some_lane v, vecRevWith_eq_rev W.eight_dvd_bits some_lane v⟩⟩

/-- The masked vector t_k holds bit k of every byte and nothing else (R170). -/
theorem and_vecMask_getLsbD {w : Nat} (hw : 8 ∣ w) (v : BitVec w) (k i : Nat) :
    (v &&& vecMask w k).getLsbD i = (decide (i % 8 = k) && v.getLsbD i) := by
  rw [BitVec.getLsbD_and, vecMask_getLsbD hw]
  by_cases hi : i < w
  · rw [decide_eq_true hi, Bool.true_and, Bool.and_comm]
  · simp [BitVec.getLsbD_of_ge v i (by omega)]

/-- Up by 7−2k, bit k stays inside its byte: the shift of the whole vector is that of its lanes (R170). -/
theorem vecTerm_eq_shiftLeft {w : Nat} (hw : 8 ∣ w) (v : BitVec w) {k : Nat} (hk : k ≤ 3) :
    vecTerm v k = (v &&& vecMask w k) <<< (7 - 2 * k) := by
  apply BitVec.eq_of_getLsbD_eq
  intro i hi
  rw [vecTerm_getLsbD hw v (by omega), BitVec.getLsbD_shiftLeft, and_vecMask_getLsbD hw]
  by_cases target : i % 8 = 7 - k
  · have reached : ¬ i < 7 - 2 * k := by omega
    have source : 8 * (i / 8) + k = i - (7 - 2 * k) := by omega
    have masked : (i - (7 - 2 * k)) % 8 = k := by omega
    simp [hi, target, reached, source, masked]
  · have elsewhere : i < 7 - 2 * k ∨ ¬ (i - (7 - 2 * k)) % 8 = k := by omega
    obtain below | unmasked := elsewhere
    · simp [target, below]
    · simp [target, unmasked]

/-- Down by 2k−7, bit k stays inside its byte: the shift of the whole vector is that of its lanes (R170). -/
theorem vecTerm_eq_ushiftRight {w : Nat} (hw : 8 ∣ w) (v : BitVec w) {k : Nat} (high : 3 < k) (hk : k < 8) :
    vecTerm v k = (v &&& vecMask w k) >>> (2 * k - 7) := by
  apply BitVec.eq_of_getLsbD_eq
  intro i hi
  rw [vecTerm_getLsbD hw v hk, BitVec.getLsbD_ushiftRight, and_vecMask_getLsbD hw]
  have masked : (2 * k - 7 + i) % 8 = k ↔ i % 8 = 7 - k := by omega
  by_cases target : i % 8 = 7 - k
  · have source : 8 * (i / 8) + k = 2 * k - 7 + i := by omega
    simp [hi, target, source, masked]
  · simp [target, masked]

/-- Each s_k is a shift of the whole masked vector (R170). -/
theorem vecTerm_eq_shift {w : Nat} (hw : 8 ∣ w) (v : BitVec w) {k : Nat} (hk : k < 8) :
    vecTerm v k = if k ≤ 3 then (v &&& vecMask w k) <<< (7 - 2 * k) else (v &&& vecMask w k) >>> (2 * k - 7) := by
  split
  next low => exact vecTerm_eq_shiftLeft hw v low
  next high => exact vecTerm_eq_ushiftRight hw v (by omega) hk

/-- The term s_k moves bit k of each byte to place 7−k (R170). -/
theorem vecTerm_getLsbD_lane {w : Nat} (hw : 8 ∣ w) (v : BitVec w) {k j t : Nat} (hk : k < 8)
    (hj : j < byteCount w) (ht : t < 8) :
    (vecTerm v k).getLsbD (8 * j + t) = (decide (t = 7 - k) && v.getLsbD (8 * j + k)) := by
  have inside : 8 * j + t < w := by have := eight_mul_byteCount hw; omega
  have bit_eq : (8 * j + t) % 8 = t := by omega
  have lane_eq : (8 * j + t) / 8 = j := by omega
  rw [vecTerm_getLsbD hw v hk, decide_eq_true inside, bit_eq, lane_eq, Bool.true_and]

/-- An OR-reduction does not see the order of its terms. -/
theorem foldl_or_eq_of_perm {w : Nat} (f : Nat → BitVec w) {ks ks' : List Nat} (same_terms : ks.Perm ks')
    (r : BitVec w) : ks.foldl (fun r k => r ||| f k) r = ks'.foldl (fun r k => r ||| f k) r := by
  apply BitVec.eq_of_getLsbD_eq
  intro i _
  rw [foldl_or_getLsbD, foldl_or_getLsbD, same_terms.any_eq]

/-- Settles O18: s_k is known bit by bit, and so are the shifts of the whole masked vector. -/
theorem vectorTermsDoNotCross : Obligations.VectorTermsDoNotCross := by
  refine fun W v => ⟨fun k hk => ⟨?whole, fun j t hj ht => ?bits⟩, fun order any_order => ?order⟩
  case whole => exact vecTerm_eq_shift W.eight_dvd_bits v hk
  case bits => exact vecTerm_getLsbD_lane W.eight_dvd_bits v hk hj ht
  case order => exact foldl_or_eq_of_perm (vecTerm v) any_order 0

end Sys2Proof.Machine

/-! ## The words of forms that do not exist

R87 gives each datapath its kinds; the word that any other kind would have is refused (R90). -/

namespace Sys2Proof

/-- The word of a datapath with a kind that is not one of its own is illegal (R87, R90). -/
theorem legal_word_of_not_admitsKind {f : Form} (refused : f.path.admitsKind f.kind = false) :
    legal f.word = false := by
  rw [legal, ((spells_iff_word_eq _ f).2 rfl).legalWith_eq, Form.wellFormedWith, refused]
  rfl

end Sys2Proof

/-! ## The commands of REV.VEC

Their rules are those of the other byte-oriented datapaths; what is their own are the terms t_k and s_k
(42_vectorized.md R172 to R176). -/

namespace Sys2Proof.Machine

open Sys2Proof

theorem exec_of_vec {i : Instr} {k : Kind} {W : Width} (hform : i.form = ⟨.vec, k, W⟩) (s : State) :
    exec i s = runVec W.bits s := by
  rw [exec_by_path, hform]

/-- The rule of a REV.VEC command: `vy` takes the byte-reversed operand (R170). -/
theorem vec_commandRule {i : Instr} {word : CmdWord} {k : Kind} {W : Width}
    (hform : i.form = ⟨.vec, k, W⟩) (hword : encode i = word) :
    CommandRule i word W vecRev (byteReversedRegs W.bits) :=
  commandRule_of_eq_rev hword (vecRev_eq_rev W.eight_dvd_bits) fun s =>
    ⟨_, (exec_of_vec hform s).trans (runVec_next _ s), setVy_respondOk_completes W.bits_le _ _ s⟩

theorem bswap_zero {w : Nat} (hw : 8 ∣ w) : bswap (0#w) = 0#w := by
  apply BitVec.eq_of_getLsbD_eq
  intro i _
  simp [bswap_getLsbD hw]

theorem bswap_allOnes {w : Nat} (hw : 8 ∣ w) : bswap (BitVec.allOnes w) = BitVec.allOnes w := by
  apply BitVec.eq_of_getLsbD_eq
  intro i hi
  have inside : 8 * (byteCount w - 1 - i / 8) + i % 8 < w := by
    have := eight_mul_byteCount hw
    omega
  simp [bswap_getLsbD hw, hi, inside]

/-- 0 and all ones are their own byte reversals, so a mask finds nothing in the one and all of itself in the
other. -/
theorem vectorCorners (W : Width) : VectorCorners W := by
  have bytes := W.eight_dvd_bits
  refine fun k _ => ⟨?zero, ?ones⟩
  case zero => rw [bswap_zero bytes]; exact BitVec.zero_and
  case ones => rw [bswap_allOnes bytes]; exact BitVec.allOnes_and

/-- One lane holds the byte itself (R8). -/
theorem bcast_byte (b : Byte) : bcast 8 b = b := by
  apply BitVec.eq_of_getLsbD_eq
  intro i hi
  rw [bcast_getLsbD (by decide), decide_eq_true hi, Nat.mod_eq_of_lt hi, Bool.true_and]

/-- At width 8 the mask m_k is the byte 2^k, and s_k is a term of the Byte Reverser (R120). -/
theorem vecTerm_byte (x : Byte) {k : Nat} (hk : k < 8) :
    vecTerm x k = if k ≤ 3 then (x &&& 1#8 <<< k) <<< (7 - 2 * k) else (x &&& 1#8 <<< k) >>> (2 * k - 7) := by
  rw [vecTerm_eq_shift (by decide) x hk, vecMask, bcast_byte]

/-- The words that REV.VEC of kinds S and F would have, at every width. -/
def vecSignedAndFloatWords : List CmdWord :=
  [Kind.s, .f].flatMap fun k => [Width.w8, .w16, .w32, .w64, .w128].map fun W => Form.word ⟨.vec, k, W⟩

/-- REV.VEC takes kind U alone (R170). -/
theorem legal_of_mem_vecSignedAndFloatWords {c : CmdWord} (h : c ∈ vecSignedAndFloatWords) : legal c = false := by
  simp only [vecSignedAndFloatWords, List.mem_flatMap, List.mem_map] at h
  obtain ⟨k, hk, W, -, rfl⟩ := h
  have kind_eq : k = .s ∨ k = .f := by simpa using hk
  obtain rfl | rfl := kind_eq <;> exact legal_word_of_not_admitsKind rfl

/-- The masks and the worked examples of R172 to R176 evaluate as the spec has them. -/
theorem vectorExamples : VectorExamples := by
  unfold VectorExamples
  decide +kernel

/-- Settles O25: each command by its row of R88; at width 8 both `VEC_8` and the Byte Reverser are `rev_8`, and the
eight terms are shifts of the whole byte. -/
theorem vectorizedCommands : Obligations.VectorizedCommands := by
  refine ⟨vec_commandRule rfl rfl, vec_commandRule rfl rfl, vec_commandRule rfl rfl, vec_commandRule rfl rfl,
    vec_commandRule rfl rfl, vectorCorners, fun x => ?byte, fun x => ?terms, ?illegal, vectorExamples⟩
  case byte => rw [vecRev_eq_rev (by decide), brev8_eq_rev]
  case terms => and_intros <;> exact vecTerm_byte x (by decide)
  case illegal => exact fun c hc => legal_of_mem_vecSignedAndFloatWords hc

end Sys2Proof.Machine

/-! ## The integer commands of REV.LUT

At width 8 there is one lane, so `LUT_8` is one read of `BTAB` (43_lookup_table.md R191); the rules of the ten
commands are the family rule at their rows of R88 (R192 to R201). -/

namespace Sys2Proof.Machine

open Sys2Proof

/-- The one lane of a byte is the byte itself (R8). -/
theorem lane_byte_zero (x : Byte) : lane x 0 = x := by
  apply BitVec.eq_of_getLsbD_eq
  intro t ht
  rw [lane_getLsbD, decide_eq_true ht, Bool.true_and, Nat.mul_zero, Nat.zero_add]

/-- What is done to every lane of a byte is done to the byte. -/
theorem mapLanes_byte (f : Byte → Byte) (x : Byte) : mapLanes f x = f x := by
  calc mapLanes f x = lane (mapLanes f x) 0 := (lane_byte_zero _).symm
    _ = f (lane x 0) := lane_mapLanes (by decide) f x (by decide)
    _ = f x := by rw [lane_byte_zero]

/-- At width 8 the lookup strategy reads `BTAB` once, at the operand byte (R191). -/
theorem lutRev_byte (x : Byte) : lutRev x = btab x := by
  rw [lutRev, bswap_byte, mapLanes_byte]

/-- Settles O14: a byte has one lane, which is the byte itself and stays where it is. -/
theorem lutByteIsOneRead : Obligations.LutByteIsOneRead :=
  fun x => ⟨lutRev_byte x, bswap_byte x, lane_byte_zero x⟩

/-- The worked examples of R192 to R201 and the entries that they read evaluate as the spec has them. -/
theorem lutIntegerExamples : LutIntegerExamples := by
  unfold LutIntegerExamples
  decide +kernel

/-- Settles O26: each command by its row of R88, kind S by the independence of the kind, and the sign remarks
because `LUT_W` is `rev_W`. -/
theorem lookupTableIntegerCommands : Obligations.LookupTableIntegerCommands := by
  have kind_ignored := kindIndependence.1
  refine ⟨lut_commandRule rfl rfl, lut_commandRule rfl rfl, lut_commandRule rfl rfl, lut_commandRule rfl rfl,
    lut_commandRule rfl rfl, lut_commandRule rfl rfl, lut_commandRule rfl rfl, lut_commandRule rfl rfl,
    lut_commandRule rfl rfl, lut_commandRule rfl rfl, fun W => ⟨?lanes, ?sign⟩, lutRev_byte, btab_btab,
    fun s => ?kinds, lutIntegerExamples⟩
  case lanes => exact laneRule_mapLanes_bswap W btab
  case sign => exact signedRule_of_eq_rev (lutRev_eq_rev W.eight_dvd_bits)
  case kinds => and_intros <;> exact kind_ignored _ _ rfl rfl s

end Sys2Proof.Machine

/-! ## The invariants of the shift-accumulate barrel

What is left of R222, R225 and R226 beside the registers after i iterations: no set bit is dropped, where `L(x)` stands
in x, where the registers end, and which bits an iteration of the nibble variant writes. -/

namespace Sys2Proof

/-- Every width fits the 8-bit counters (R28, R29). -/
theorem Width.bits_lt_counter (W : Width) : W.bits < 256 := Nat.lt_of_le_of_lt W.bits_le (by decide)

end Sys2Proof

namespace Sys2Proof.Machine

open Sys2Proof

/-! ### Shape (a) -/

theorem iterate_itaBody_cnt_toNat {w : Nat} (x : BitVec w) {i : Nat} (hi : i < 256) :
    (itaBody^[i] (countedStart x)).cnt.toNat = i := by
  rw [iterate_itaBody_cnt, BitVec.toNat_ofNat, Nat.mod_eq_of_lt hi]

/-- Before each iteration the top bit of the accumulator is clear, so `acc << 1` drops no set bit (R222). -/
theorem iterate_itaBody_acc_msb {w : Nat} (x : BitVec w) {i : Nat} (hi : i < w) :
    (itaBody^[i] (countedStart x)).acc.msb = false := by
  have not_filled : ¬ w - 1 < i := by omega
  rw [BitVec.msb_eq_getLsbD_last, iterate_itaBody_acc_getLsbD x hi.le, decide_eq_false not_filled, Bool.false_and]

theorem itaFinal_src {w : Nat} (hw : w < 256) (x : BitVec w) : (itaFinal x).src = 0 := by
  rw [itaFinal_eq_iterate hw, iterate_itaBody_src]
  exact BitVec.ushiftRight_eq_zero le_rfl

theorem itaFinal_cnt_toNat {w : Nat} (hw : w < 256) (x : BitVec w) : (itaFinal x).cnt.toNat = w := by
  rw [itaFinal_eq_iterate hw, iterate_itaBody_cnt_toNat x hw]

/-- Settles O19: the registers after i iterations, by induction on i; at i = W they are the final ones. -/
theorem shapeAInvariant : Obligations.ShapeAInvariant := by
  intro W x
  have counted := W.bits_lt_counter
  refine ⟨fun i hi => ⟨?count, iterate_itaBody_src x i, fun t ht => ?filled, fun t ht => ?clear⟩,
    fun i hi => ?kept, itaFinal_eq_iterate counted x, itaFinal_acc counted x, itaFinal_src counted x,
    itaFinal_cnt_toNat counted x⟩
  case count => exact iterate_itaBody_cnt_toNat x (by omega)
  case filled => rw [iterate_itaBody_acc_getLsbD x hi, decide_eq_true ht, Bool.true_and]
  case clear => rw [iterate_itaBody_acc_getLsbD x hi, decide_eq_false (Nat.not_lt.2 ht), Bool.false_and]
  case kept => rw [← BitVec.msb_eq_getLsbD_last, iterate_itaBody_acc_msb x hi]

/-! ### Shape (b) -/

/-- `L(x)` bounds the places of the set bits of x. -/
theorem bitLength_le_iff {w : Nat} (x : BitVec w) (n : Nat) :
    bitLength x ≤ n ↔ ∀ k, n ≤ k → x.getLsbD k = false := by
  constructor
  · intro hL k hk
    exact getLsbD_of_bitLength_le x (hL.trans hk)
  · intro clear
    rw [← shiftRight_eq_zero_iff]
    apply BitVec.eq_of_getLsbD_eq
    intro k _
    rw [BitVec.getLsbD_ushiftRight, clear (n + k) (Nat.le_add_right n k)]
    exact BitVec.getLsbD_zero.symm

/-- The highest set bit stands at place `L(x)` − 1. -/
theorem getLsbD_of_bitLength_eq_succ {w : Nat} (x : BitVec w) {k : Nat} (hL : bitLength x = k + 1) :
    x.getLsbD k = true := by
  by_contra bit_clear
  have shorter : bitLength x ≤ k := by
    refine (bitLength_le_iff x k).2 fun j hj => ?_
    obtain rfl | above := hj.eq_or_lt
    · exact Bool.eq_false_iff.2 bit_clear
    · exact getLsbD_of_bitLength_le x (by omega)
  omega

/-- A value with its top bit set has `L(x)` = W. -/
theorem bitLength_eq_of_msb {w : Nat} (x : BitVec w) (top_set : x.msb = true) : bitLength x = w := by
  rw [BitVec.msb_eq_getLsbD_last] at top_set
  have longer : ¬ bitLength x ≤ w - 1 := by
    intro hL
    rw [getLsbD_of_bitLength_le x hL] at top_set
    cases top_set
  have := bitLength_le x
  omega

theorem bitLength_zero (w : Nat) : bitLength (0#w) = 0 := if_pos rfl

theorem bitLength_one {w : Nat} (hw : 0 < w) : bitLength (1#w) = 1 := by
  have at_most : bitLength (1#w) ≤ 1 := by
    refine (bitLength_le_iff _ 1).2 fun k hk => ?_
    have not_lowest : ¬ k = 0 := by omega
    simp [BitVec.getLsbD_one, not_lowest]
  have not_zero : ¬ bitLength (1#w) ≤ 0 := by
    intro hL
    have lowest_clear := getLsbD_of_bitLength_le _ hL
    simp [hw] at lowest_clear
  omega

/-- `off` counts down from W−1 modulo 256 (R28, R225). -/
theorem iterate_itbBody_off_eq_ofInt {w : Nat} (hw : 0 < w) (x : BitVec w) (i : Nat) :
    (itbBody^[i] (offsetStart x)).off = BitVec.ofInt 8 ((w : Int) - 1 - (i : Int)) := by
  have start : (w : Int) - 1 - (i : Int) + (i : Int) = ((w - 1 : Nat) : Int) := by omega
  rw [iterate_itbBody_off, sub_eq_iff_eq_add, ← BitVec.ofInt_natCast 8 i, ← BitVec.ofInt_add, start,
    BitVec.ofInt_natCast]

theorem itbFinal_src {w : Nat} (x : BitVec w) : (itbFinal x).src = 0 := by
  rw [itbFinal_eq_iterate, iterate_itbBody_src, shiftRight_eq_zero_iff]

theorem itbFinal_off {w : Nat} (hw : 0 < w) (x : BitVec w) :
    (itbFinal x).off = BitVec.ofInt 8 ((w : Int) - 1 - (bitLength x : Int)) := by
  rw [itbFinal_eq_iterate, iterate_itbBody_off_eq_ofInt hw]

/-- After W iterations `off` has been decremented once more at 0, and wraps (R225, R313). -/
theorem itbFinal_off_of_bitLength_eq {w : Nat} (hw : 0 < w) {x : BitVec w} (hL : bitLength x = w) :
    (itbFinal x).off = 255 := by
  have below_zero : (w : Int) - 1 - (w : Int) = -1 := by omega
  rw [itbFinal_off hw, hL, below_zero]
  rfl

/-- Settles O20: the registers after i iterations, by induction on i; the loop ends at `L(x)`, where the places of x
that are left hold zeros. -/
theorem shapeBInvariant : Obligations.ShapeBInvariant := by
  intro W x
  have counted := W.bits_lt_counter.le
  have at_most := bitLength_le x
  refine ⟨at_most, fun k => getLsbD_of_bitLength_le x, fun k => getLsbD_of_bitLength_eq_succ x,
    fun i hi => ⟨iterate_itbBody_src x i, iterate_itbBody_off_eq_ofInt W.bits_pos x i, fun t ht => ?placed,
      fun t ht inside => ?clear⟩,
    fun i hi => ⟨?going, ?offset⟩, itbFinal_eq_iterate x, itbFinal_acc counted x, itbFinal_src x,
    itbFinal_off_of_bitLength_eq W.bits_pos, fun shorter => ?last_offset⟩
  case placed =>
    have source : W.bits - 1 - (W.bits - 1 - t) = t := by omega
    rw [iterate_itbBody_acc_getLsbD counted x (by omega) (by omega), source, decide_eq_true ht, Bool.true_and]
  case clear =>
    have source : W.bits - 1 - (W.bits - 1 - t) = t := by omega
    rw [iterate_itbBody_acc_getLsbD counted x (by omega) (by omega), source, decide_eq_false (Nat.not_lt.2 ht),
      Bool.false_and]
  case going =>
    rw [iterate_itbBody_src, Ne, shiftRight_eq_zero_iff]
    exact Nat.not_le.2 hi
  case offset => exact iterate_itbBody_off_toNat counted x (by omega)
  case last_offset => rw [itbFinal_eq_iterate, iterate_itbBody_off_toNat counted x shorter]

/-! ### The nibble variant -/

theorem iterate_itnBody_cnt_toNat (x : BitVec 32) {i : Nat} (hi : i < 256) :
    (itnBody^[i] (countedStart x)).cnt.toNat = i := by
  rw [iterate_itnBody_cnt, BitVec.toNat_ofNat, Nat.mod_eq_of_lt hi]

/-- Iteration c leaves nibble c mirrored at bits 31−4c down to 28−4c of the accumulator (R226). -/
theorem iterate_itnBody_acc_nibble (x : BitVec 32) {c : Nat} (hc : c < 8) :
    (itnBody^[c + 1] (countedStart x)).acc.extractLsb' (28 - 4 * c) 4 = rev (x.extractLsb' (4 * c) 4) := by
  apply BitVec.eq_of_getLsbD_eq
  intro t ht
  have written : 31 - (28 - 4 * c + t) < 4 * (c + 1) := by omega
  have source : 31 - (28 - 4 * c + t) = 4 * c + (4 - 1 - t) := by omega
  have in_nibble : 4 - 1 - t < 4 := by omega
  rw [BitVec.getLsbD_extractLsb', iterate_itnBody_acc_getLsbD x (by omega) (by omega), rev_getLsbD_of_lt _ ht,
    BitVec.getLsbD_extractLsb', decide_eq_true written, source, decide_eq_true ht, decide_eq_true in_nibble,
    Bool.true_and]

/-- Iteration c writes no other bit of the accumulator (R226). -/
theorem iterate_itnBody_acc_frame (x : BitVec 32) {c k : Nat} (hc : c < 8) (other : k < 28 - 4 * c ∨ 31 - 4 * c < k) :
    (itnBody^[c + 1] (countedStart x)).acc.getLsbD k = (itnBody^[c] (countedStart x)).acc.getLsbD k := by
  by_cases hk : k < 32
  · have same_written : 31 - k < 4 * (c + 1) ↔ 31 - k < 4 * c := by omega
    rw [iterate_itnBody_acc_getLsbD x (by omega) hk, iterate_itnBody_acc_getLsbD x (by omega) hk]
    simp only [same_written]
  · rw [BitVec.getLsbD_of_ge _ k (by omega), BitVec.getLsbD_of_ge _ k (by omega)]

theorem itnFinal_src (x : BitVec 32) : (itnFinal x).src = x := by
  rw [itnFinal_eq_iterate, iterate_itnBody_src]

theorem itnFinal_cnt_toNat (x : BitVec 32) : (itnFinal x).cnt.toNat = 8 := by
  rw [itnFinal_eq_iterate, iterate_itnBody_cnt_toNat x (by decide)]

/-- Settles O21: the registers after c iterations, by induction on c, read at the nibble that iteration c writes and
at the bits outside it. -/
theorem nibbleVariantPlacesNibbles : Obligations.NibbleVariantPlacesNibbles := fun x =>
  ⟨fun c hc => ⟨iterate_itnBody_cnt_toNat x (by omega), iterate_itnBody_src x c, itnNibble_iterate_itnBody x hc,
      iterate_itnBody_acc_nibble x hc, fun _ other => iterate_itnBody_acc_frame x hc other⟩,
    itnFinal_eq_iterate x, itnFinal_acc x, itnFinal_src x, itnFinal_cnt_toNat x⟩

/-! ### The shapes agree -/

/-- A command answers `rev_W` of its operand at its own width (R88, R114). -/
theorem masterRule_encode (i : Instr) (o : BusWord) :
    masterRule (encode i) o = ⟨onBus (rev (o.setWidth i.form.width.bits)), .ok⟩ := by
  have decodes : decode (encode i) = .instr i := (decodeInvertsEncode _ i).2 rfl
  have is_legal : legal (encode i) = true := (exists_decodeWith_iff_legalWith _ _).1 ⟨i, decodes⟩
  rw [masterRule_of_legal is_legal, selectedWidth_of_decodeWith decodes]

/-- Settles O22: each shape is `rev_W`, and a response is the master rule's, in which the width alone stands. -/
theorem iterativeShapesAgree : Obligations.IterativeShapesAgree := by
  refine ⟨fun W x => ?shapes, fun x => ?nibble, fun i j _ _ same_width o r hr => ?responses⟩
  case shapes => rw [itaFinal_acc W.bits_lt_counter, itbFinal_acc W.bits_lt_counter.le]
  case nibble => rw [itnFinal_acc, itaFinal_acc (by decide)]
  case responses =>
    rw [responds_iff_eq_masterRule, masterRule_encode] at hr ⊢
    rw [hr, same_width]

end Sys2Proof.Machine

/-! ## The words of ITER that do not exist

An illegal word may spell a form of the grammar (R93) that R87 does not list, by its kind or by its width. -/

namespace Sys2Proof

/-- The word of a form is legal where R87 lists the form (R89). -/
theorem legal_word (f : Form) : legal f.word = f.wellFormed :=
  ((spells_iff_word_eq _ f).2 rfl).legalWith_eq _

theorem legal_of_mem_words_of_unlisted {fs : List Form} (unlisted : ∀ f ∈ fs, f.wellFormed = false) {c : CmdWord}
    (hc : c ∈ fs.map Form.word) : legal c = false := by
  obtain ⟨f, hf, rfl⟩ := List.mem_map.1 hc
  rw [legal_word, unlisted f hf]

/-- The forms of a datapath with kinds S and F, at every width. -/
def signedAndFloatForms (p : Datapath) : List Form :=
  [Kind.s, .f].flatMap fun k => [Width.w8, .w16, .w32, .w64, .w128].map fun W => ⟨p, k, W⟩

/-- Forms of the nibble variant with a width that is not 32, or with kind S or F (R83, R87). -/
def unlistedNibbleForms : List Form :=
  [⟨.iterN, .u, .w8⟩, ⟨.iterN, .u, .w16⟩, ⟨.iterN, .u, .w64⟩, ⟨.iterN, .u, .w128⟩,
    ⟨.iterN, .s, .w32⟩, ⟨.iterN, .f, .w32⟩]

theorem wellFormed_of_mem_signedAndFloatForms {p : Datapath}
    (unsigned_only : p.admitsKind .s = false ∧ p.admitsKind .f = false) {f : Form}
    (hf : f ∈ signedAndFloatForms p) : f.wellFormed = false := by
  obtain ⟨no_signed, no_float⟩ := unsigned_only
  simp only [signedAndFloatForms, List.mem_flatMap, List.mem_map] at hf
  obtain ⟨k, hk, W, -, rfl⟩ := hf
  have kind_eq : k = .s ∨ k = .f := by simpa using hk
  obtain rfl | rfl := kind_eq
  · simp [Form.wellFormed, Form.wellFormedWith, no_signed]
  · simp [Form.wellFormed, Form.wellFormedWith, no_float]

theorem wellFormed_of_mem_unlistedNibbleForms : ∀ f ∈ unlistedNibbleForms, f.wellFormed = false := by decide

end Sys2Proof

/-! ## The commands of REV.ITER

Each runs its loop, leaves the loop's final registers in the barrel and responds with the accumulator (44_iterative.md
R221, R223, R226), so the rules of R228 to R238 are the invariants at the rows of R88. -/

namespace Sys2Proof.Machine

open Sys2Proof

theorem exec_of_iterA {i : Instr} {k : Kind} {W : Width} (hform : i.form = ⟨.iterA, k, W⟩) (s : State) :
    exec i s = runIterA W.bits s := by
  rw [exec_by_path, hform]

theorem exec_of_iterB {i : Instr} {k : Kind} {W : Width} (hform : i.form = ⟨.iterB, k, W⟩) (s : State) :
    exec i s = runIterB W.bits s := by
  rw [exec_by_path, hform]

/-- A command that leaves `r` in the counted barrel and answers its accumulator changes nothing else (R27, R112). -/
theorem setCnt_respondOk_completes {w : Nat} (hw : w ≤ 128) (r : CountedBarrel w) (s t : State)
    (ht : t = (((s.setAcc r.acc).setSrc r.src).setCnt r.cnt).respondOk r.acc) :
    Answered ⟨onBus r.acc, .ok⟩ s t ∧ t.acc.setWidth w = r.acc ∧ t.src.setWidth w = r.src ∧ t.cnt = r.cnt
      ∧ t.off = s.off ∧ SameLanes s t := by
  subst ht
  exact ⟨⟨rfl, rfl, rfl, rfl, rfl⟩, inRegister_setWidth _ _ hw, inRegister_setWidth _ _ hw, rfl, rfl, rfl⟩

/-- A command that leaves `r` in the offset barrel and answers its accumulator changes nothing else (R28, R112). -/
theorem setOff_respondOk_completes {w : Nat} (hw : w ≤ 128) (r : OffsetBarrel w) (s t : State)
    (ht : t = (((s.setAcc r.acc).setSrc r.src).setOff r.off).respondOk r.acc) :
    Answered ⟨onBus r.acc, .ok⟩ s t ∧ t.acc.setWidth w = r.acc ∧ t.src.setWidth w = r.src ∧ t.off = r.off
      ∧ t.cnt = s.cnt ∧ SameLanes s t := by
  subst ht
  exact ⟨⟨rfl, rfl, rfl, rfl, rfl⟩, inRegister_setWidth _ _ hw, inRegister_setWidth _ _ hw, rfl, rfl, rfl⟩

/-- The rule of a REV.ITER.A command: the barrel ends as R222 says. -/
theorem iterA_commandRule {i : Instr} {word : CmdWord} {k : Kind} {W : Width}
    (hform : i.form = ⟨.iterA, k, W⟩) (hword : encode i = word) :
    CommandRule i word W (fun x => (itaFinal x).acc) (iterARegs W.bits) := by
  have counted := W.bits_lt_counter
  refine commandRule_of_eq_rev hword (itaFinal_acc counted) fun s =>
    ⟨_, (exec_of_iterA hform s).trans (runIterA_next _ s), ?_⟩
  obtain ⟨answered, acc_eq, src_eq, cnt_eq, kept⟩ :=
    setCnt_respondOk_completes W.bits_le (itaFinal (s.operand W.bits)) s _ rfl
  exact ⟨answered, acc_eq.trans (itaFinal_acc counted _), src_eq.trans (itaFinal_src counted _),
    (congrArg BitVec.toNat cnt_eq).trans (itaFinal_cnt_toNat counted _), kept⟩

/-- The rule of a REV.ITER.B command: the barrel ends as R225 says. -/
theorem iterB_commandRule {i : Instr} {word : CmdWord} {k : Kind} {W : Width}
    (hform : i.form = ⟨.iterB, k, W⟩) (hword : encode i = word) :
    CommandRule i word W (fun x => (itbFinal x).acc) (iterBRegs W.bits) := by
  have counted := W.bits_lt_counter.le
  refine commandRule_of_eq_rev hword (itbFinal_acc counted) fun s =>
    ⟨_, (exec_of_iterB hform s).trans (runIterB_next _ s), ?_⟩
  obtain ⟨answered, acc_eq, src_eq, off_eq, kept⟩ :=
    setOff_respondOk_completes W.bits_le (itbFinal (s.operand W.bits)) s _ rfl
  exact ⟨answered, acc_eq.trans (itbFinal_acc counted _), src_eq.trans (itbFinal_src _),
    off_eq.trans (itbFinal_off W.bits_pos _), kept⟩

/-- The rule of the REV.ITER.N command: the barrel ends as R226 says. -/
theorem iterN_commandRule : CommandRule .iterNU32 0x0242 .w32 (fun x => (itnFinal x).acc) (iterNRegs 32) := by
  refine commandRule_of_eq_rev rfl itnFinal_acc fun s => ⟨_, runIterN_next s, ?_⟩
  obtain ⟨answered, acc_eq, src_eq, cnt_eq, kept⟩ :=
    setCnt_respondOk_completes (by decide) (itnFinal (s.operand 32)) s _ rfl
  exact ⟨answered, acc_eq.trans (itnFinal_acc _), src_eq.trans (itnFinal_src _),
    (congrArg BitVec.toNat cnt_eq).trans (itnFinal_cnt_toNat _), kept⟩

theorem legal_of_mem_unlistedCountedWords {c : CmdWord}
    (hc : c ∈ (signedAndFloatForms .iterA ++ unlistedNibbleForms).map Form.word) : legal c = false := by
  refine legal_of_mem_words_of_unlisted (fun f hf => ?_) hc
  obtain by_kind | nibble := List.mem_append.1 hf
  · exact wellFormed_of_mem_signedAndFloatForms ⟨rfl, rfl⟩ by_kind
  · exact wellFormed_of_mem_unlistedNibbleForms f nibble

/-- The worked examples of R228 to R232 and R238 evaluate as the spec has them. -/
theorem countedExamples : CountedExamples := by
  unfold CountedExamples
  decide +kernel

/-- Settles O27: each command by its row of R88; bit W−1 ends at bit 0 because `ITA_W` is `rev_W`. -/
theorem countedIterativeCommands : Obligations.CountedIterativeCommands := by
  refine ⟨iterA_commandRule rfl rfl, iterA_commandRule rfl rfl, iterA_commandRule rfl rfl, iterA_commandRule rfl rfl,
    iterA_commandRule rfl rfl, iterN_commandRule,
    fun W x => ⟨itaFinal_eq_iterate W.bits_lt_counter x, ?kept, ?last⟩, itnFinal_eq_iterate, ntab_ntab,
    ?illegal, countedExamples⟩
  case kept => exact fun i hi => iterate_itaBody_acc_msb x hi
  case last => rw [itaFinal_acc W.bits_lt_counter, rev_getLsbD_zero]
  case illegal => exact fun c hc => legal_of_mem_unlistedCountedWords hc

/-- The accumulator of x = 1 is the one bit placed at offset W−1. -/
theorem rev_one {w : Nat} (hw : 0 < w) : rev (1#w) = BitVec.twoPow w (w - 1) := by
  rw [← BitVec.twoPow_zero, rev_twoPow hw, Nat.sub_zero]

/-- The corner cases are `L(0)` = 0, `L(1)` = 1 and `L(x)` = W where bit W−1 is set. -/
theorem offsetCorners (W : Width) : OffsetCorners W := by
  have counted := W.bits_lt_counter.le
  have pos := W.bits_pos
  refine ⟨?zero, ?one, ?first_offset, ?placed,
    fun x => ⟨bitLength_le x, itbFinal_eq_iterate x, fun top_set => ?top⟩⟩
  case zero => rw [itbFinal_eq_iterate, bitLength_zero]; rfl
  case one => rw [itbFinal_eq_iterate, bitLength_one pos]; rfl
  case first_offset => exact iterate_itbBody_off_toNat counted (1#W.bits) pos
  case placed => rw [itbFinal_acc counted, rev_one pos]
  case top =>
    have all_bits := bitLength_eq_of_msb x top_set
    have last_offset := iterate_itbBody_off_toNat counted x (show W.bits - 1 < W.bits by omega)
    exact ⟨all_bits, BitVec.eq_of_toNat_eq (last_offset.trans (Nat.sub_self _)),
      itbFinal_off_of_bitLength_eq pos all_bits⟩

/-- The worked examples of R233 to R237 evaluate as the spec has them. -/
theorem offsetExamples : OffsetExamples := by
  unfold OffsetExamples
  decide +kernel

/-- Settles O28: each command by its row of R88, the corner cases by `L(x)`, and kinds S and F refused by R87. -/
theorem offsetIterativeCommands : Obligations.OffsetIterativeCommands := by
  refine ⟨iterB_commandRule rfl rfl, iterB_commandRule rfl rfl, iterB_commandRule rfl rfl, iterB_commandRule rfl rfl,
    iterB_commandRule rfl rfl, offsetCorners, fun c hc => ?illegal, offsetExamples⟩
  case illegal =>
    exact legal_of_mem_words_of_unlisted (fun _ hf => wellFormed_of_mem_signedAndFloatForms ⟨rfl, rfl⟩ hf)
      (fs := signedAndFloatForms .iterB) hc

end Sys2Proof.Machine

/-! ## The naive strategy against `rev_W`

Totality and the value of the round trip are one equation (`naiveRev_eq_some_rev`); the example of
45_naive_reference.md R261 follows the text of 240 through its three steps. -/

namespace Sys2Proof.Machine

open Sys2Proof

/-- The digit sequence of the example of R261, before it is reversed. -/
theorem binaryText_240 : binaryText (240#8) = ['1', '1', '1', '1', '0', '0', '0', '0'] := by decide

/-- Settles O9: the text read back is that of `rev_W(x)`, so the parse gives `rev_W(x)`; for 240 that is 15. -/
theorem naiveEqualsRev : Obligations.NaiveEqualsRev := by
  refine ⟨fun _ x => naiveRev_eq_some_rev x, binaryText_240, ?reversed, ?parsed⟩
  case reversed => rw [binaryText_240]; rfl
  case parsed =>
    have rev_240 : rev (240#8) = 15#8 := by decide
    rw [naiveRev_eq_some_rev, rev_240]

end Sys2Proof.Machine

/-! ## The exception, the take and the step that goes on

An illegal word is no command, which is all that the decoder's verdict needs (R271); a take is one move of the
host; and every move that a step can be ends in a next state (60_exceptions.md R273, R277, R285). -/

namespace Sys2Proof.Machine

open Sys2Proof

theorem not_exists_decode_of_illegal {c : CmdWord} (hl : legal c = false) : ¬ ∃ i, decode c = .instr i := by
  intro decodes
  have hl' : legal c = true := (exists_decodeWith_iff_legalWith Config.floatWidths c).1 decodes
  exact Bool.false_ne_true (hl.symm.trans hl')

/-- Settles O33: an illegal word does not decode, and the step answers such a word by `takeIllegalCommand`, before
and after a quiet move alike. -/
theorem illegalCommandOnlyAnswers : Obligations.IllegalCommandOnlyAnswers := by
  intro c hl
  obtain ⟨-, -, -, refused⟩ := decodingIsTheLegalityTest c
  exact refused (not_exists_decode_of_illegal hl)

/-- Settles O40: the step is the model's `takeResponse`, which writes the channel alone and leaves it the tail of
what it was. -/
theorem hostTakesTheOldestResponse : Obligations.HostTakesTheOldestResponse := by
  intro s rest hh
  refine ⟨_, turn_of_take _ hh, fun r rs waiting => ?oldest, fun empty => ?none_waiting, rfl, rfl, rfl, rfl,
    ⟨rfl, rfl, rfl, rfl⟩, rfl⟩
  case oldest => exact congrArg List.tail waiting
  case none_waiting => exact congrArg List.tail empty

theorem exists_answerHeld_eq_next (s : State) : ∃ t, s.answerHeld = .next t := by
  obtain ⟨_, t, answers, _⟩ := answerHeld_next s
  exact ⟨t, answers⟩

/-- Settles O42: a step waits, takes, resets or accepts, each of which names its next state, or it answers the held
command, legal or not, and goes on. -/
theorem everyStepGoesOn : Obligations.EveryStepGoesOn := by
  intro s
  obtain ⟨-, -, stays⟩ | ⟨_, -, -, waits⟩ | ⟨_, -, takes⟩ | ⟨_, -, resets⟩ | ⟨_, _, _, -, -, accepts⟩
    | ⟨rest, -, -, answers⟩ | ⟨-, -, answers⟩ := step_cases s
  · exact ⟨_, stays⟩
  · exact ⟨_, waits⟩
  · exact ⟨_, takes⟩
  · exact ⟨_, resets⟩
  · exact ⟨_, accepts⟩
  · rw [answers]
    exact exists_answerHeld_eq_next { s with host := rest }
  · rw [answers]
    exact exists_answerHeld_eq_next s

end Sys2Proof.Machine

/-! ## The wait behind a held command, and the reset

A command at the head of the host's moves still lets a BUSY engine move (R33, 70_reset_and_hazards.md R311); a reset
leaves nothing of the latches that an IDLE `phase` would show (R300, R302). -/

namespace Sys2Proof.Machine

open Sys2Proof

/-- A BUSY engine holds what its latches hold, whatever command is presented to it meanwhile. -/
theorem holds_latches_of_present {s : State} {c : CmdWord} {o : BusWord} {rest : List HostMove}
    (busy : s.phase = .busy) (hh : s.host = .present c o :: rest) : Holds s.cmdQ s.opndQ s :=
  ⟨busy, rfl, rfl, .inr ⟨c, o, rest, hh⟩⟩

/-- Settles O38: the engine holds the latched command, so the step answers that one by the master rule, and an answer
leaves the host's moves as they were. -/
theorem busyCommandWaits : Obligations.BusyCommandWaits := by
  intro s c o rest busy hh
  obtain ⟨t, step_t, answered⟩ :=
    turn_answers_masterRuleWith Config.floatWidths (holds_latches_of_present busy hh)
  have ⟨_, _, _, _, host_t⟩ := answered
  exact ⟨t, step_t, answered, host_t.trans hh⟩

/-- While IDLE the latches hold no command, so the host sees the channel and its own moves alone (R31). -/
theorem Indistinguishable.of_idle {s t : State} (idle_s : s.phase = .idle) (idle_t : t.phase = .idle)
    (responses_eq : s.responses = t.responses) (host_eq : s.host = t.host) : Indistinguishable s t := by
  refine ⟨idle_s.trans idle_t.symm, responses_eq, host_eq, fun busy => ?_⟩
  cases idle_s.symm.trans busy

/-- Settles O39: the step is the model's `resetEvent`, whose free values stand behind an IDLE `phase`. -/
theorem resetDropsTheCommandInFlight : Obligations.ResetDropsTheCommandInFlight := by
  intro s rest hh
  exact ⟨State.resetEvent { s with host := rest }, turn_of_reset _ hh, rfl, rfl, rfl, .of_idle rfl rfl rfl rfl⟩

end Sys2Proof.Machine
